-- ==== Sys2Proof/Word.lean ====
section
/-! DEFINITION. The words the station counts and stamps with: payload bytes, the 32-bit millisecond
clock and the 8-bit tags (spec/00_scope.md Time; R164; R153; R190). -/

namespace Sys2Proof

/-- One payload byte of a frame (R190). -/
abbrev Byte := BitVec 8

/-- A time on the millisecond clock, which is 32 bits wide and wraps (00_scope, Time). -/
abbrev Ms := BitVec 32

/-- A prompt, gantry or command tag, 0..255 (R164, R153, 7.6). -/
abbrev Tag := BitVec 8

end Sys2Proof
end

