-- ==== Sys2Proof/Config.lean ====
section
/-! DEFINITION. The constants the spec fixes for every NC24: durations in reference ticks, full
scales, shares of the transmit queue. No value of the spec is left free here: the one constant the
spec leaves to the part, its revision, is a field of State (assumption 4). -/

namespace Sys2Proof.Config

/-- One millisecond is 16,000 ticks of the 16.000 MHz crystal (00_scope, Time). -/
def ticksPerMs : Nat := 16000

/-- One bit time of the rack bus at 1 Mbit/s (R126). -/
def ticksPerBit : Nat := 16

/-- Deglitch of the four nest sensors: 20 ms (R21). -/
def sensorDeglitchMs : Nat := 20

/-- The wait after a contact drive: 10 ms (R29). -/
def contactWaitMs : Nat := 10

/-- The rhythm of the reading instants: 10 ms (R78). -/
def readingTicks : Nat := 160000

/-- The sampling rhythm of the analogue cells: 0.1 ms (R78). -/
def sampleTicks : Nat := 1600

/-- A ramp is updated every 10 ms (R49). -/
def rampTicks : Nat := 160000

/-- The length of SELF-CHECK: 40 ms (R184). -/
def selfCheckTicks : Nat := 640000

/-- The announce timer: 1,000 ms (R185). -/
def announceMs : Nat := 1000

/-- The rebuild timer of the opener (R151). -/
def rebuildOwnMs : Nat := 20

/-- The rebuild timer of every other station (R151). -/
def rebuildOtherMs : Nat := 200

/-- The retry timer after a rejected CLAIM: 2 ms (R156). -/
def retryMs : Nat := 2

/-- The extra time of a gate before its timeout: 250 ms (R86). -/
def gateSlackMs : Nat := 250

/-- Recessive bit times before IDLE (R128). -/
def idleBits : Nat := 10

/-- The command queue holds up to 4 commands (R138). -/
def commandQueueSize : Nat := 4

/-- Steps a unit's engine may pass through at one event: 96 steps of at most four moves each, and
one to begin with (R102, R115; assumption 23). -/
def engineFuel : Nat := 512

end Sys2Proof.Config
end

