-- ==== Sys2Proof/Syntax.lean ====
section
/-! DEFINITION. The commands the station takes: one constructor of `Instr` per row of
spec/opcode_table.json. The table gives the rows no bits and no operand fields; the operands are
those the rules give the event. Every command but COLD_RESET carries the reference ticks
(62.5 ns) that have passed since the command before it (assumption 1). The commands at whose event a
UNIT START may be taken carry the level of the fixture code pins there too (R25, assumption 24). -/

namespace Sys2Proof

/-- A frame as it lies on the rack bus between its start bit and its check (R192). -/
structure Frame where
  cls     : BitVec 2
  src     : BitVec 5
  kind    : BitVec 6
  dst     : BitVec 5
  payload : List Byte
deriving DecidableEq, Repr

/-- A delivered frame whose kind the command's row names (R192). -/
structure Delivery where
  cls     : BitVec 2
  src     : BitVec 5
  dst     : BitVec 5
  payload : List Byte
deriving DecidableEq, Repr

/-- The four deglitched sensors of the nest (R21); the level `true` of each is its active one (assumption 55). -/
inductive Sensor where
  | partPresent | clampClosed | clampOpen | guardClosed
deriving DecidableEq, Repr

/-- The three resources that CLAIM, RELEASE and HOLDING name (R144). -/
inductive Resource where
  | panel | gantry | budget
deriving DecidableEq, Repr

/-- The levels of the pins at the end of a cold reset: straps (R128), fixture code pins (R25), nest
sensors (R20), timing and logic inputs, bit i for cell 4 + i or 8 + i (R80, R81). -/
structure ResetPins where
  straps      : BitVec 5
  fixture     : BitVec 6
  partPresent : Bool
  clampClosed : Bool
  clampOpen   : Bool
  guardClosed : Bool
  timing      : BitVec 4
  logic       : BitVec 4
deriving DecidableEq, Repr

/-- The ticks before an event at which a UNIT START may be taken, and the level of the fixture code pins at it
(assumptions 1 and 24). -/
structure PinnedTicks where
  ticks : Nat
  pins  : BitVec 6
deriving DecidableEq, Repr

/-- The ticks before the end of the self-check, and the sixteen stimulus outputs as read back there: the code of
channel 0 and of a LEVEL channel, and 1 or 0 for the high or low level of a PULSE or SWITCH output (R184,
assumption 41). -/
structure ReadBack where
  ticks   : Nat
  outputs : Vector (BitVec 12) 16
deriving DecidableEq, Repr

/-- What the converter gives at a sampling instant of cell 2 or 3: the sample of the cell's 16 most recent, and the
sample that an acquisition on the cell takes as its own (R78, R83, assumption 46). -/
structure CellSample where
  background  : BitVec 12
  acquisition : BitVec 12
deriving DecidableEq, Repr

/-- The commands, in the order of spec/opcode_table.json. -/
inductive Instr where
  /-- COLD_RESET (R183). -/
  | coldReset (pins : ResetPins)
  /-- SELF_CHECK_END (R184), with the outputs as read back. -/
  | selfCheckEnd (back : ReadBack)
  /-- NEST_SENSOR_INPUT (R21). -/
  | nestSensorInput (dt : Nat) (sensor : Sensor) (level : Bool)
  /-- PART_PRESENT_CHANGE (R24). -/
  | partPresentChange (dt : Nat)
  /-- CLAMP_CLOSED_CHANGE (R26). -/
  | clampClosedChange (dt : Nat)
  /-- CLAMP_OPEN_CHANGE (R33). -/
  | clampOpenChange (dt : Nat)
  /-- GUARD_CHANGE (R34). -/
  | guardChange (dt : Nat)
  /-- CLAMP_TIMEOUT (R26). -/
  | clampTimeout (dt : Nat)
  /-- CONTACT_WAIT_EXPIRY (R29). -/
  | contactWaitExpiry (dt : Nat)
  /-- READING_INSTANT (R78). -/
  | readingInstant (dt : Nat)
  /-- LEVEL_SAMPLES_COMPLETE (R83). -/
  | levelSamplesComplete (dt : Nat)
  /-- TIMING_INPUT_CHANGE (R80). -/
  | timingInputChange (dt : Nat) (cell : Fin 4) (level : Bool)
  /-- TIMING_EDGE (R80). -/
  | timingEdge (dt : Nat) (cell : Fin 4)
  /-- LOGIC_INPUT_CHANGE (R81). -/
  | logicInputChange (dt : Nat) (cell : Fin 4) (level : Bool)
  /-- LOGIC_LEVEL_TAKEN (R81). -/
  | logicLevelTaken (dt : Nat) (cell : Fin 4)
  /-- GATE_TIMEOUT (R86). -/
  | gateTimeout (dt : Nat)
  /-- COUNT_INTERVAL_END (R87). -/
  | countIntervalEnd (dt : Nat)
  /-- QUALIFY_TIMER_EXPIRY (R96). -/
  | qualifyTimerExpiry (dt : Nat) (cond : Fin 8)
  /-- NET_SCHEDULE_EXAMINATION (R63). -/
  | netScheduleExamination (dt : Nat)
  /-- SENT_COMPLETION (R67). -/
  | sentCompletion (dt : Nat)
  /-- RECEIVE_HANDOFF (R74). -/
  | receiveHandoff (dt : Nat) (ident : BitVec 11) (payload : List Byte)
  /-- NETFIELD_WAIT_EXPIRY (R75). -/
  | netfieldWaitExpiry (dt : Nat)
  /-- RAMP_UPDATE (R49). -/
  | rampUpdate (dt : Nat) (ch : Fin 16)
  /-- ONE_SHOT_EXPIRY (R45). -/
  | oneShotExpiry (dt : Nat) (ch : Fin 16)
  /-- PERIOD_START (R47). -/
  | periodStart (dt : Nat) (ch : Fin 16)
  /-- DWELL_EXPIRY (R104). -/
  | dwellExpiry (dt : Nat)
  /-- SETTLE_TIMEOUT (R109). -/
  | settleTimeout (dt : Nat)
  /-- PROMPT_TIMEOUT (R169). -/
  | promptTimeout (dt : Nat)
  /-- RESOURCE_WAIT_EXPIRY (R157). -/
  | resourceWaitExpiry (dt : Nat) (res : Resource)
  /-- RETRY_TIMER_EXPIRY (R156). -/
  | retryTimerExpiry (dt : Nat) (res : Resource)
  /-- GANTRY_RESULT_TIMEOUT (R163). -/
  | gantryResultTimeout (dt : Nat)
  /-- REBUILD_TIMER_EXPIRY (R151). -/
  | rebuildTimerExpiry (dt : Nat)
  /-- ANNOUNCE_TIMER_EXPIRY (R185). -/
  | announceTimerExpiry (dt : Nat)
  /-- BUS_IDLE (R128). -/
  | busIdle (dt : Nat)
  /-- ARBITRATION_LOST (R129). -/
  | arbitrationLost (dt : Nat)
  /-- BIT_CLASH (R130). -/
  | bitClash (dt : Nat)
  /-- FRAME_REJECTED (R132). -/
  | frameRejected (pt : PinnedTicks) (line : List Bool)
  /-- UNROUTED_FRAME_DELIVERY (R136). -/
  | unroutedFrameDelivery (dt : Nat) (frame : Frame)
  /-- COMMAND_DELIVERED (R138). -/
  | commandDelivered (pt : PinnedTicks) (frame : Frame)
  /-- CLAIM (R146). -/
  | claim (dt : Nat) (d : Delivery)
  /-- RELEASE (R147). -/
  | release (dt : Nat) (d : Delivery)
  /-- HOLDING (R150). -/
  | holding (dt : Nat) (d : Delivery)
  /-- ATTENTION (R149). -/
  | attention (dt : Nat) (d : Delivery)
  /-- REBUILD_END (R152). -/
  | rebuildEnd (dt : Nat) (d : Delivery)
  /-- FORCE_RELEASE (R148). -/
  | forceRelease (dt : Nat) (d : Delivery)
  /-- VERDICT_NOTICE (R177). -/
  | verdictNotice (dt : Nat) (d : Delivery)
  /-- RACK_HALT (R179). -/
  | rackHalt (dt : Nat) (d : Delivery)
  /-- LINE_RESUME (R181). -/
  | lineResume (dt : Nat) (d : Delivery)
  /-- RACK_PARAMETERS (R186). -/
  | rackParameters (dt : Nat) (d : Delivery)
  /-- ADDRESS_TAKEN (R185). -/
  | addressTaken (dt : Nat) (d : Delivery)
  /-- PROMPT_ANSWER (R168). -/
  | promptAnswer (dt : Nat) (d : Delivery)
  /-- PROMPT_POST (R167). -/
  | promptPost (dt : Nat) (d : Delivery)
  /-- PROMPT_WITHDRAW (R170). -/
  | promptWithdraw (dt : Nat) (d : Delivery)
  /-- MEASURE_REQUEST (R162). -/
  | measureRequest (dt : Nat) (d : Delivery)
  /-- MEASURE_RESULT (R163). -/
  | measureResult (dt : Nat) (d : Delivery)
  /-- REPLY_DELIVERED (R140). -/
  | replyDelivered (pt : PinnedTicks) (frame : Frame)
  /-- PLAN_BEGIN (R2). -/
  | planBegin (dt : Nat) (d : Delivery)
  /-- PLAN_RECORD (R3). -/
  | planRecord (dt : Nat) (d : Delivery)
  /-- PLAN_SEAL (R5). -/
  | planSeal (dt : Nat) (d : Delivery)
  /-- SEAL_VALIDATION_END (R19). -/
  | sealValidationEnd (pt : PinnedTicks)
  /-- UNIT_START (R100). -/
  | unitStart (dt : Nat) (pins : BitVec 6) (d : Delivery)
  /-- UNIT_ABORT (R121). -/
  | unitAbort (dt : Nat) (d : Delivery)
  /-- VERDICT_QUERY (R123). -/
  | verdictQuery (dt : Nat) (d : Delivery)
  /-- VERDICT_RELEASE (R124). -/
  | verdictRelease (dt : Nat) (d : Delivery)
  /-- VOID_UNIT (R125). -/
  | voidUnit (dt : Nat) (d : Delivery)
  /-- CLEAR_FAULT (R39). -/
  | clearFault (dt : Nat) (d : Delivery)
  /-- CLEAR_SUSPECT (R40). -/
  | clearSuspect (dt : Nat) (d : Delivery)
  /-- STATUS_QUERY (R182). -/
  | statusQuery (dt : Nat) (d : Delivery)
  /-- STATION_RESET (R189). -/
  | stationReset (dt : Nat) (d : Delivery)
  /-- ANALOGUE_SAMPLE (R78, R83): the converter values of cells 0..3. -/
  | analogueSample (dt : Nat) (x0 : BitVec 12) (x1 : BitVec 12) (x2 : CellSample) (x3 : CellSample)
  /-- HIGH_TIME_END (R46). -/
  | highTimeEnd (dt : Nat) (ch : Fin 16)
deriving DecidableEq, Repr

end Sys2Proof
end

