-- ==== Sys2Proof/Decode.lean ====
section
/-! DEFINITION. The commands that the table's bits spell. No row of spec/opcode_table.json has
bits: every row's "fields" is empty and the reader counts 71 rows unread (00_scope, the reader's
counts). So no word spells a command. The bits that the spec does give, those of the frames on the
rack bus, are read and written in Machine/Formats.lean (R190 to R196). -/

namespace Sys2Proof

/-- The command that a word of `nbits` bits spells by the table's bits: none, since no row of the
table has bits. -/
def decodeTableWord (_nbits _w : Nat) : Option Instr := none

end Sys2Proof
end

