-- ==== Sys2Proof/Machine/State.lean ====
section
/-! DEFINITION. The state of the station, block by block, as the chapters of the spec give it, and
the state right after a cold reset (`State.reset`). Timers are held as the tick at which they
expire. -/

namespace Sys2Proof.Machine

/-- Reasons a step can stop with a fault. There is none: what the spec calls FAULT is a state of the
nest (R38) and its ERRORs are contents of records, so every command leads to a next state. Nobody
raises a `Fault`, which is safe. -/
inductive Fault where
deriving DecidableEq, Repr

/-- Reasons a command has no meaning here. -/
inductive Refusal where
  /-- Raised by an arm of `exec` whose command has no meaning yet; safe. No arm raises it. -/
  | notModelled (mnemonic : String)
deriving DecidableEq, Repr

/-! ## Inputs with a deglitch -/

/-- An input: its raw level, its deglitched level, and, while the two differ, the tick at which the
raw level will have held long enough (R21, R80, R81). -/
structure Deglitch where
  raw    : Bool
  level  : Bool
  endsAt : Option Nat
deriving DecidableEq, Repr

/-- An input at rest at the level of its pin (R20, R80, R81: "takes the raw level at the end of the reset"). -/
def Deglitch.at (b : Bool) : Deglitch := ⟨b, b, none⟩

/-! ## Readings -/

/-- A reading: NO SIGNAL, or a value with the marks INEXACT, SATURATED and STATIC (R89). -/
inductive Reading where
  | noSignal
  | value (v : Int) (inexact saturated still : Bool)
deriving DecidableEq, Repr

/-- The class of a reading against a window (R106). -/
inductive ReadingClass where
  | pass | marginal | fail | noSignal
deriving DecidableEq, Repr

/-- The outcome of an attempt (6.9). -/
inductive AttemptOutcome where
  | pass | marginal | fail | noSignal
  | error (code : Nat)
deriving DecidableEq, Repr

/-- The final outcome of a step (R115). -/
inductive StepOutcome where
  | pass | fail | noSignal | error
deriving DecidableEq, Repr

/-- The annotations of a step result, in the order of their bits (R196). -/
structure Annotations where
  inexact           : Bool := false
  saturated         : Bool := false
  still             : Bool := false
  unsettled         : Bool := false
  marginalExhausted : Bool := false
  stimulusLate      : Bool := false
  clamped           : Bool := false
  overrange         : Bool := false
deriving DecidableEq, Repr

/-! ## Plan records. Enumerated fields are held as the codes of R195, so that a code outside its
values is stored and fails the seal. -/

/-- CHANNEL SETUP (R7). -/
structure ChannelSetup where
  polarity    : Nat
  reload      : Nat
  source      : Nat
  derivedFrom : Nat
  divisor     : Nat
  levelKind   : Nat
deriving DecidableEq, Repr

/-- CELL SETUP (R8): range code, flag threshold, hysteresis, edge, deglitch. -/
structure CellSetup where
  range      : Nat
  threshold  : Nat
  hysteresis : Nat
  edge       : Nat
  deglitch   : Nat
deriving DecidableEq, Repr

/-- CONDITION (R9): three flag sources, the truth table as a byte, the qualify time in ms. -/
structure Condition where
  input0  : Nat
  input1  : Nat
  input2  : Nat
  table   : Nat
  qualify : Nat
deriving DecidableEq, Repr

/-- WINDOW (R10). -/
structure Window where
  low       : Int
  high      : Int
  guardBand : Nat
deriving DecidableEq, Repr

/-- SCENE HEAD (R12), with the RETAINED mark of the scene (R1). -/
structure SceneHead where
  draw      : Nat
  permanent : Bool
  count     : Nat
  retained  : Bool
deriving DecidableEq, Repr

/-- SCENE ITEM (R13). Spans are span codes. -/
inductive SceneItem where
  | channel (channel value : Nat) (ramp : Option Nat) (duty oneShot : Nat)
  | network (entry action : Nat) (freeze badChecksum : Bool) (override : Option (Nat × Nat))
  | other (itemType : Nat)
deriving DecidableEq, Repr

/-- NET ENTRY (R16). -/
structure NetEntry where
  identifier : Nat
  length     : Nat
  period     : Nat
  payload    : List Byte
  alive      : Option Nat
  checksum   : Option Nat
deriving DecidableEq, Repr

/-- NET BINDING (R16). -/
structure NetBinding where
  entry      : Nat
  start      : Nat
  length     : Nat
  channel    : Nat
  multiplier : Nat
  divisor    : Nat
  offset     : Int
deriving DecidableEq, Repr

/-- CAPTURE (R17). -/
structure CaptureRecord where
  identifier : Nat
  period     : Nat
deriving DecidableEq, Repr

/-- CONTACT PAIR (R17). -/
structure ContactPair where
  channel : Nat
  value   : Nat
  cell    : Nat
  window  : Nat
deriving DecidableEq, Repr

/-- The source of a STEP with its fields (R18, R195). -/
inductive StepSource where
  | none
  | cell (cell mode gate count : Nat)
  | netfield (capture start length sign : Nat)
  | elapsed (condition event : Nat)
  | event (condition event : Nat)
  | spot (spot exposure : Nat)
  | prompt (kind message presence : Nat) (parameter : Int)
  | other (code : Nat)
deriving DecidableEq, Repr

/-- STEP (R18): kind 0 APPLY, 1 MEASURE, 2 WAIT, 3 LIGHT, 4 JUDGE; the scene with its REPLACE mark;
dwell and settle timeout as span codes. -/
structure StepRecord where
  kind     : Nat
  scene    : Option (Nat × Bool)
  dwell    : Option Nat
  settle   : Option Nat
  retest   : Nat
  count    : Nat
  window   : Option Nat
  auto     : Option Nat
  failCode : Nat
  stop     : Bool
  source   : StepSource
deriving DecidableEq, Repr

/-- The record slots of one kind that hold a record: slot numbers strictly rising (R1). -/
abbrev Slots (α : Type) := List (Nat × α)

/-- One record of the Plan Store (R1). -/
inductive PlanRecord where
  | channelSetup (r : ChannelSetup)
  | cellSetup (r : CellSetup)
  | condition (r : Condition)
  | window (r : Window)
  | sceneHead (r : SceneHead)
  | sceneItem (r : SceneItem)
  | netEntry (r : NetEntry)
  | netBinding (r : NetBinding)
  | capture (r : CaptureRecord)
  | contactPair (r : ContactPair)
  | step (r : StepRecord)
deriving DecidableEq, Repr

/-- Plan states (R1). -/
inductive PlanState where
  | empty | loading | sealed | invalid
deriving DecidableEq, Repr

/-- The Plan Store (R1). A CHANNEL or CELL SETUP slot with no entry holds its default record (R6). -/
structure Plan where
  state         : PlanState
  id            : Option Nat
  written       : Nat
  stepCount     : Nat
  channelSetups : Slots ChannelSetup
  cellSetups    : Slots CellSetup
  conditions    : Slots Condition
  windows       : Slots Window
  heads         : Slots SceneHead
  items         : Slots SceneItem
  entries       : Slots NetEntry
  bindings      : Slots NetBinding
  captures      : Slots CaptureRecord
  pairs         : Slots ContactPair
  steps         : Slots StepRecord
deriving DecidableEq, Repr

/-- The Plan Store after a cold reset (R1). -/
def Plan.reset : Plan :=
  ⟨.empty, none, 0, 0, [], [], [], [], [], [], [], [], [], [], []⟩

/-! ## Rack Bus Interface -/

/-- What a frame the station sends says (R193, R194, R196). -/
inductive TxBody where
  | addressTaken (qualifier detail : Nat) (revision : Byte)
  | attention
  | rebuildEnd (opener : Nat)
  | holding (r : Resource) (amount : Nat)
  | release (r : Resource) (amount : Nat)
  | claim (r : Resource) (amount : Nat)
  | verdictNotice (verdict : Nat) (code : Nat) (fixture : Nat)
  | promptPost (tag : Tag) (kind message : Nat) (parameter : Option Int)
  | promptWithdraw (tag : Tag)
  | measureRequest (tag : Tag) (spot exposure : Nat)
  | accept (kind : Nat) (tag : Tag) (result : Nat)
  | refuse (kind : Nat) (tag : Tag) (cls code qualifier : Nat)
  | statusReport (tag : Tag) (fields : List Byte)
  | verdictSegment (tag : Tag) (fields : List Byte)
deriving DecidableEq, Repr

/-- The producers that share the transmit queue (R134); the Claim Unit keeps at most one frame per resource. -/
inductive Producer where
  | handler | claimUnit (r : Resource) | promptQueue | gantry | engine | joinView
deriving DecidableEq, Repr

/-- A frame of the transmit queue, with the mark that it is on the line (R133). -/
structure TxEntry where
  body   : TxBody
  onLine : Bool
deriving DecidableEq, Repr

/-- Bus states (7.2). SENDING holds the tick of the start bit. -/
inductive BusState where
  | silent | settling | idle | receiving
  | sending (start : Nat)
deriving DecidableEq, Repr

/-- The Rack Bus Interface (R128, R131, R133). -/
structure Rbi where
  address      : Nat
  bus          : BusState
  settleFrom   : Nat
  queue        : List TxEntry
  rejectDriven : Bool
deriving DecidableEq, Repr

/-! ## Command Handler -/

/-- A delivered command: its kind number and its payload (R138). -/
structure Command where
  kind    : Nat
  payload : List Byte
deriving DecidableEq, Repr

/-- Handler states (R139). -/
inductive HandlerState where
  | ready | carryingOut | replyWaiting | resetting
deriving DecidableEq, Repr

/-- The PLAN SEAL whose validation runs: its tag, step and record count, and the tick of its taking (R5). -/
structure SealJob where
  tag     : Tag
  steps   : Nat
  records : Nat
  takenAt : Nat
deriving DecidableEq, Repr

/-- The Command Handler and the command queue (R138, R139). -/
structure Handler where
  state  : HandlerState
  queue  : List Command
  slot   : Option TxBody
  job    : Option SealJob
deriving DecidableEq, Repr

/-! ## Rack View -/

/-- An exclusive resource in a view (R143). -/
structure Exclusive where
  holder  : Option Nat
  waiting : List Nat
deriving DecidableEq, Repr

/-- The Rack View (R143, R175). `held` is indexed by station − 1; `window` is the opener of an OPEN window. -/
structure View where
  active      : Bool
  panel       : Exclusive
  gantry      : Exclusive
  held        : List Nat
  budgetList  : List (Nat × Nat)
  total       : Nat
  window      : Option Nat
  streak      : Nat
  lineStopped : Bool
  halted      : Bool
deriving DecidableEq, Repr

/-- The Rack View after a cold reset (R143, R175). -/
def View.reset : View :=
  ⟨false, ⟨none, []⟩, ⟨none, []⟩, List.replicate 24 0, [], 0, none, 0, false, false⟩

/-! ## Claim Unit -/

/-- The Claim Unit's items for PANEL or GANTRY (R153). `fresh`: the wait timer of the present want
has still to be started by its first CLAIM (R157). -/
structure ExclusiveClaim where
  want     : Bool
  retry    : Option Nat
  wait     : Option Nat
  fresh    : Bool
  reported : Bool
  record   : Bool
deriving DecidableEq, Repr

/-- The Claim Unit's items for BUDGET (R153). `opened`: the record as it was made at the opening ATTENTION, which
R59 reads and no fall of W lowers (assumption 42). -/
structure BudgetClaim where
  want     : Nat
  retry    : Option Nat
  wait     : Option Nat
  fresh    : Bool
  reported : Bool
  record   : Nat
  opened   : Nat
deriving DecidableEq, Repr

/-- The gantry request (R153, R162). HELD BACK keeps the spot and exposure asked for. -/
inductive GantryRequest where
  | none
  | heldBack (spot exposure : Nat)
  | queued (tag : Tag) (spot exposure : Nat)
  | outstanding (tag : Tag) (expiry : Nat)
deriving DecidableEq, Repr

/-- The Claim Unit (R153). -/
structure Claims where
  panel   : ExclusiveClaim
  gantry  : ExclusiveClaim
  budget  : BudgetClaim
  request : GantryRequest
  tag     : Tag
  silent  : Bool
deriving DecidableEq, Repr

/-- PANEL or GANTRY with nothing wanted and every timer stopped (R153). -/
def ExclusiveClaim.clear : ExclusiveClaim := ⟨false, none, none, false, false, false⟩

/-- BUDGET with W = 0 and every timer stopped (R153). -/
def BudgetClaim.clear : BudgetClaim := ⟨0, none, none, false, false, 0, 0⟩

/-- The Claim Unit cleared, its tag counter kept (R153). -/
def Claims.cleared (tag : Tag) : Claims :=
  ⟨ExclusiveClaim.clear, ExclusiveClaim.clear, BudgetClaim.clear, .none, tag, true⟩

/-! ## Nest Controller -/

/-- Nest states (2.1). -/
inductive NestState where
  | empty | loaded | clamping | clamped | contacting | ready | testing
  | releasing | unload | held | fault
deriving DecidableEq, Repr

/-- Where the contact check stands (R29, R30): nothing driven; the 10 ms wait with its end; awaiting
the monitor reading after the given tick; awaiting the acquisition; the opening half of a reseat. -/
inductive ContactPhase where
  | none
  | waiting (expiry : Nat)
  | monitor (since : Nat)
  | acquiring
  | opening
deriving DecidableEq, Repr

/-- The Nest Controller (2.1, R20). `derived`: SELF-CHECK has ended and the nest acts on its sensors (R20, R22). -/
structure Nest where
  state       : NestState
  valve       : Bool
  fixture     : Option Nat
  wear        : Nat
  counter     : Nat
  forced      : Bool
  reseat      : Bool
  position    : Nat
  contact     : ContactPhase
  holdGuard   : Bool
  holdHalt    : Bool
  fault       : Option Nat
  suspect     : Bool
  clampTimer  : Option Nat
  partPresent : Deglitch
  clampClosed : Deglitch
  clampOpen   : Deglitch
  guardClosed : Deglitch
  derived     : Bool
deriving DecidableEq, Repr

/-- The Nest Controller at the end of a cold reset (R20). -/
def Nest.reset (p : ResetPins) : Nest :=
  ⟨.empty, false, none, 0, 0, false, false, 0, .none, false, false, none, false, none,
   .at p.partPresent, .at p.clampClosed, .at p.clampOpen, .at p.guardClosed, false⟩

/-! ## Stimulus Unit -/

/-- A running period of a PULSE channel with source OWN: T, high time, start tick, and whether the
high time still lasts (R46, R47). -/
structure PulseRun where
  period : Nat
  high   : Nat
  start  : Nat
  inHigh : Bool
deriving DecidableEq, Repr

/-- The pending pair of a PULSE channel (R47). -/
inductive PendingPair where
  | none
  | stop
  | pair (period high : Nat)
deriving DecidableEq, Repr

/-- A ramp: v0, v1, K, k and the tick of the application event (R49). -/
structure Ramp where
  v0    : Nat
  v1    : Nat
  total : Nat
  made  : Nat
  start : Nat
deriving DecidableEq, Repr

/-- The runtime of a channel (R42). `run`: period T and high time of a PULSE channel with source OWN, and none while it
is stopped, for which the table gives no values (assumption 61). `active`: a PULSE output stands at its active level.
`counted`: a DERIVED channel has counted a period start since it took RUN or since its source started (R48). -/
structure Channel where
  setpoint : Nat
  code     : Nat
  freq     : Nat
  duty     : Nat
  run      : Option PulseRun
  pend     : PendingPair
  derRun   : Bool
  counted  : Bool
  position : Nat
  active   : Bool
  ramp     : Option Ramp
  oneShot  : Option Nat
  clamped  : Bool
deriving DecidableEq, Repr

/-- A channel after a cold reset (R43; duty by assumption 5, no period and high time by assumption 61). -/
def Channel.reset : Channel :=
  ⟨0, 0, 0, 5000, none, .none, false, false, 0, false, none, none, false⟩

/-- Application states (R42). -/
inductive AppState where
  | idle | deferred | awaitingBudget | ramping | returningSurplus
deriving DecidableEq, Repr

/-- The Stimulus Unit (R42). `request` is the held or waiting request: a scene and its REPLACE mark.
`test` is the channel under a contact test value (R58). -/
structure Stim where
  channels : Vector Channel 16
  applied  : Nat
  app      : AppState
  request  : Option (Nat × Bool)
  overdraw : Nat
  test     : Option Nat
deriving DecidableEq, Repr

/-- The Stimulus Unit after a cold reset (R43). -/
def Stim.reset : Stim := ⟨Vector.replicate 16 Channel.reset, 0, .idle, none, 0, none⟩

/-! ## Network Schedule Unit and Capture Table -/

/-- The runtime of a network entry (R61). `due` is next due, `pend` the pending due of a PENDING entry. -/
structure NetRun where
  enabled     : Bool
  due         : Option Ms
  pend        : Option Ms
  alive       : Nat
  freeze      : Bool
  badChecksum : Bool
  override    : Option (Nat × Nat)
  late        : Bool
deriving DecidableEq, Repr

/-- An entry after a cold reset (R61). -/
def NetRun.reset : NetRun := ⟨false, none, none, 0, false, false, none, false⟩

/-- The port state (R61). -/
inductive PortState where
  | free | busy (entry : Nat) | loopback
deriving DecidableEq, Repr

/-- A send request at the frame port: the loopback, or a frame (R66, R67). -/
inductive SendRequest where
  | loopback
  | frame (identifier : Nat) (payload : List Byte)
deriving DecidableEq, Repr

/-- The Network Schedule Unit (R61) and the last send request it made. -/
structure Net where
  entries   : Vector NetRun 24
  port      : PortState
  overrange : Bool
  request   : Option SendRequest
deriving DecidableEq, Repr

/-- The Network Schedule Unit after a cold reset, before the loopback request (R61). -/
def Net.reset : Net := ⟨Vector.replicate 24 NetRun.reset, .free, false, none⟩

/-- An entry of the Capture Table (R73); the payload carries its length. -/
structure CaptureEntry where
  payload : List Byte
  arrival : Option Ms
deriving DecidableEq, Repr

/-- The arm of the Capture Table: capture, tick of the arming, and the field (R73, R75). -/
structure CaptureArm where
  capture : Nat
  armedAt : Nat
  start   : Nat
  length  : Nat
  signed  : Bool
deriving DecidableEq, Repr

/-- The Capture Table (R73). -/
structure CaptureTable where
  entries : Vector CaptureEntry 16
  arm     : Option CaptureArm
deriving DecidableEq, Repr

/-- The Capture Table after a reset or a seal (R73). -/
def CaptureTable.reset : CaptureTable := ⟨Vector.replicate 16 ⟨[], none⟩, none⟩

/-! ## Sense Unit -/

/-- The source of an acquisition (R82). `cond c true` is RISE. -/
inductive AcqSource where
  | level (cell : Nat) | freq (cell : Nat) | duty (cell : Nat) | count (cell : Nat)
  | elapsed (condition : Nat) (rise : Bool)
deriving DecidableEq, Repr

/-- The phase of an acquisition (R82). -/
inductive AcqPhase where
  | sampling | awaitingReading | awaitingOpen | gateOpen | counting | awaitingEvent
deriving DecidableEq, Repr

/-- An acquisition (R82). `forNest`: armed by the Nest Controller. `moved`: an edge of either
direction came since the arming (R86). `lastEdge`: the tick up to which `high` is summed. `before`: the edges
that a COUNT counts though they came before the arming event, at the arming tick (R87). -/
structure Acquisition where
  forNest   : Bool
  source    : AcqSource
  gate      : Nat
  samples   : Nat
  armMs     : Ms
  armTick   : Nat
  phase     : AcqPhase
  sum       : Nat
  taken     : Nat
  saturated : Bool
  openTick  : Nat
  openRise  : Bool
  periods   : Nat
  high      : Nat
  edges     : Nat
  moved     : Bool
  lastEdge  : Nat
  before    : Nat
deriving DecidableEq, Repr

/-- The state of a condition (R96): qualified state, and the expiry of a running qualify timer. -/
structure ConditionState where
  qualified : Bool
  timer     : Option Nat
deriving DecidableEq, Repr

/-- The qualifying edges that a timing cell has had at the tick of its latest edge, each judged by the edge
selection in force when it came (R77, R80, R87): the model's own. -/
structure TickEdges where
  tick  : Nat
  count : Nat
deriving DecidableEq, Repr

/-- No edge yet. -/
def TickEdges.none : TickEdges := ⟨0, 0⟩

/-- The Sense Unit (R78 to R82, R96). `timing` and `logic` are cells 4..7 and 8..11; `edges` holds what R87 needs
of the latest edges of cells 4..7. -/
structure Sense where
  samples     : Vector (List Nat) 4
  nextSample  : Nat
  nextReading : Nat
  background  : Vector Reading 4
  flags       : Vector Bool 4
  timing      : Vector Deglitch 4
  logic       : Vector Deglitch 4
  slot        : Option Acquisition
  conditions  : Vector ConditionState 8
  edges       : Vector TickEdges 4
deriving DecidableEq, Repr

/-- The Sense Unit at the end of a cold reset (R78 to R82, R97; samples by assumption 6, the first sample 0.1 ms after
the end of the reset by assumption 57). -/
def Sense.reset (p : ResetPins) : Sense where
  samples := Vector.replicate 4 (List.replicate 16 0)
  nextSample := Config.sampleTicks
  nextReading := Config.readingTicks
  background := Vector.replicate 4 (.value 0 false false false)
  flags := Vector.replicate 4 false
  timing := #v[.at (p.timing.getLsbD 0), .at (p.timing.getLsbD 1), .at (p.timing.getLsbD 2), .at (p.timing.getLsbD 3)]
  logic := #v[.at (p.logic.getLsbD 0), .at (p.logic.getLsbD 1), .at (p.logic.getLsbD 2), .at (p.logic.getLsbD 3)]
  slot := none
  conditions := Vector.replicate 8 ⟨false, none⟩
  edges := Vector.replicate 4 .none

/-! ## Step Engine -/

/-- Engine states (R99). -/
inductive EngineState where
  | idle | applying | dwell | acquiring | awaitResource | awaitResult | awaitAnswer | ending
deriving DecidableEq, Repr

/-- The Step Engine (R99). -/
structure Engine where
  state   : EngineState
  step    : Nat
  attempt : Nat
  count   : Nat
  last    : Option (Reading × ReadingClass)
  dwell   : Option Nat
  settle  : Option Nat
deriving DecidableEq, Repr

/-- The Step Engine after a reset (R99). -/
def Engine.reset : Engine := ⟨.idle, 0, 0, 0, none, none, none⟩

/-- A move of the Step Engine that follows within the same event: the start of an attempt (R103), the
report of the scene (R104), the part of the attempt that belongs to the step's kind (R105), the end
of the attempt with its outcome, deciding reading and UNSETTLED mark (R114). -/
inductive Phase where
  | attemptStart
  | applied
  | part
  | ended (o : AttemptOutcome) (r : Option Reading) (unsettled : Bool)
deriving DecidableEq, Repr

/-! ## Verdict Store and Verdict History -/

/-- The verdict of a unit record (R122). -/
inductive Verdict where
  | unfinished | pass | fail | aborted
deriving DecidableEq, Repr

/-- A step result (R115). -/
structure StepResult where
  step     : Nat
  attempts : Nat
  outcome  : StepOutcome
  reading  : Option Int
  notes    : Annotations
  partCode : Option Nat
deriving DecidableEq, Repr

/-- A unit record (R122). Verdict `unfinished` is OPEN. -/
structure UnitRecord where
  seq       : BitVec 16
  serial    : List Byte
  planId    : Nat
  fixture   : Nat
  wear      : Nat
  start     : Ms
  finish    : Option Ms
  verdict   : Verdict
  firstFail : Option Nat
  results   : List StepResult
deriving DecidableEq, Repr

/-- The Verdict Store (R122), oldest record first. -/
structure VerdictStore where
  records : List UnitRecord
  counter : BitVec 16
deriving DecidableEq, Repr

/-- An entry of the Verdict History (R125). -/
inductive HistoryEntry where
  | pass | fail | aborted | empty
deriving DecidableEq, Repr

/-- The Verdict History with 8 EMPTY entries (R125). -/
def History.reset : List HistoryEntry := List.replicate 8 .empty

/-! ## Prompt Queue -/

/-- The two sources of prompts (R164). -/
inductive PromptSource where
  | nest | step
deriving DecidableEq, Repr

/-- The auto-complete of a prompt (R164). -/
inductive AutoComplete where
  | none | condition (c : Nat) | partRemoved
deriving DecidableEq, Repr

/-- The state of a prompt entry (R164). -/
inductive PromptState where
  | queued
  | claiming (granted : Option Tag)
  | posted (tag : Tag)
deriving DecidableEq, Repr

/-- An entry of the Prompt Queue (R164): kind 0 CONFIRM, 1 VALUE, 2 ACTION; the timeout in ms. -/
structure PromptEntry where
  source  : PromptSource
  kind    : Nat
  message : Nat
  param   : Option Int
  timeout : Option Nat
  auto    : AutoComplete
  state   : PromptState
deriving DecidableEq, Repr

/-- The Prompt Queue (R164). -/
structure Prompts where
  entries    : List PromptEntry
  timer      : Option Nat
  withdrawal : Option Tag
  tag        : Tag
deriving DecidableEq, Repr

/-! ## Join Machine -/

/-- Join states (11.1). -/
inductive JoinState where
  | badAddress | selfCheck | announcing | awaitingParameters | rebuilding
  | joined | failedJoined | conflict
deriving DecidableEq, Repr

/-- The rack parameters (R186). The last three are span codes. -/
structure RackParams where
  total         : Nat
  margin        : Nat
  streakLimit   : Nat
  suspectLimit  : Nat
  interval      : Nat
  wearLimit     : Nat
  clampTimeout  : Nat
  resourceWait  : Nat
  gantryTimeout : Nat
deriving DecidableEq, Repr

/-- The Join Machine (R183, R184, R187) with the rebuild timer of the station (R151). -/
structure Join where
  state         : JoinState
  qualifier     : Nat
  detail        : Nat
  params        : Option RackParams
  announce      : Option Nat
  clockStart    : Option Nat
  checking      : Bool
  attentionDue  : Bool
  rebuildTimer  : Option Nat
  rebuildEndDue : Bool
deriving DecidableEq, Repr

/-- Pins read without a deglitch, and the part revision (R21, R128, R185). -/
structure Pins where
  straps   : BitVec 5
  fixture  : BitVec 6
  revision : Byte
deriving DecidableEq, Repr

/-- The whole station. `now` counts reference ticks since the end of the cold reset; `pending` is the
queue of commands waiting to be executed, first in, first out. -/
structure State where
  now      : Nat
  pins     : Pins
  rbi      : Rbi
  handler  : Handler
  view     : View
  claims   : Claims
  plan     : Plan
  nest     : Nest
  stim     : Stim
  net      : Net
  capture  : CaptureTable
  sense    : Sense
  engine   : Engine
  store    : VerdictStore
  history  : List HistoryEntry
  prompts  : Prompts
  join     : Join
  pending  : List Instr
deriving DecidableEq, Repr

/-- The pins of `State.reset`: straps 1, every other pin low (assumption 3). -/
def resetPins : ResetPins := ⟨1, 0, false, false, false, false, 0, 0⟩

/-- The station right after a cold reset, its straps reading 1 and every other pin low (assumption
3): every block at its cold-reset values and SELF-CHECK started, with the loopback request made
(R128, R183, R184). -/
def State.reset : State where
  now := 0
  pins := ⟨resetPins.straps, resetPins.fixture, 1⟩
  rbi := ⟨1, .settling, 0, [], false⟩
  handler := ⟨.ready, [], none, none⟩
  view := View.reset
  claims := Claims.cleared 0
  plan := Plan.reset
  nest := Nest.reset resetPins
  stim := Stim.reset
  net := { Net.reset with port := .loopback, request := some .loopback }
  capture := CaptureTable.reset
  sense := Sense.reset resetPins
  engine := Engine.reset
  store := ⟨[], 0⟩
  history := History.reset
  prompts := ⟨[], none, none, 0⟩
  join := ⟨.selfCheck, 0, 0, none, none, none, true, false, none, false⟩
  pending := []

end Sys2Proof.Machine
end

