-- ==== Sys2Proof/Machine/Ops.lean ====
section
/-! DEFINITION. The operations every block shares: the update of one block of the state, time and
timers, the slots of the Plan Store, fixed-length tables, and the arithmetic of 00_scope
(Arithmetic and Rounding, Span Code). -/

namespace Sys2Proof.Machine

/-! ## The update of one block -/

/-- Update the `pins` block. -/
def State.modPins (s : State) (f : Pins → Pins) : State := { s with pins := f s.pins }

/-- Update the `rbi` block. -/
def State.modRbi (s : State) (f : Rbi → Rbi) : State := { s with rbi := f s.rbi }

/-- Update the `handler` block. -/
def State.modHandler (s : State) (f : Handler → Handler) : State := { s with handler := f s.handler }

/-- Update the `view` block. -/
def State.modView (s : State) (f : View → View) : State := { s with view := f s.view }

/-- Update the `claims` block. -/
def State.modClaims (s : State) (f : Claims → Claims) : State := { s with claims := f s.claims }

/-- Update the `plan` block. -/
def State.modPlan (s : State) (f : Plan → Plan) : State := { s with plan := f s.plan }

/-- Update the `nest` block. -/
def State.modNest (s : State) (f : Nest → Nest) : State := { s with nest := f s.nest }

/-- Update the `stim` block. -/
def State.modStim (s : State) (f : Stim → Stim) : State := { s with stim := f s.stim }

/-- Update the `net` block. -/
def State.modNet (s : State) (f : Net → Net) : State := { s with net := f s.net }

/-- Update the `capture` block. -/
def State.modCapture (s : State) (f : CaptureTable → CaptureTable) : State := { s with capture := f s.capture }

/-- Update the `sense` block. -/
def State.modSense (s : State) (f : Sense → Sense) : State := { s with sense := f s.sense }

/-- Update the `engine` block. -/
def State.modEngine (s : State) (f : Engine → Engine) : State := { s with engine := f s.engine }

/-- Update the `store` block. -/
def State.modStore (s : State) (f : VerdictStore → VerdictStore) : State := { s with store := f s.store }

/-- Update the `history` block. -/
def State.modHistory (s : State) (f : List HistoryEntry → List HistoryEntry) : State := { s with history := f s.history }

/-- Update the `prompts` block. -/
def State.modPrompts (s : State) (f : Prompts → Prompts) : State := { s with prompts := f s.prompts }

/-- Update the `join` block. -/
def State.modJoin (s : State) (f : Join → Join) : State := { s with join := f s.join }

/-- The level of the fixture code pins at this event (R21, R25, assumption 24). -/
def State.readPins (s : State) (pins : BitVec 6) : State := s.modPins (fun p => { p with fixture := pins })

/-! ## Time -/

/-- `dt` ticks pass (assumption 1). -/
def State.elapse (s : State) (dt : Nat) : State := { s with now := s.now + dt }

/-- `dt` ticks pass, and at least as many as it takes to reach tick `t` (assumption 2). -/
def State.elapseTo (s : State) (dt t : Nat) : State := { s with now := max (s.now + dt) t }

/-- The tick `n` milliseconds from now. -/
def State.after (s : State) (n : Nat) : Nat := s.now + n * Config.ticksPerMs

/-- The millisecond clock: 0 until it starts, then counted modulo 2^32 (R183). -/
def State.ms (s : State) : Ms :=
  match s.join.clockStart with
  | none => 0
  | some t => BitVec.ofNat 32 ((s.now - t) / Config.ticksPerMs)

/-- The first multiple of `q` at or above `n`. -/
def roundUp (n q : Nat) : Nat := (n + q - 1) / q * q

/-! ## Arithmetic -/

/-- Round half up: the quotient of `a` by a positive `b`, one more when the remainder is at least half
of `b` taken exactly (00_scope, Arithmetic and Rounding). -/
def roundHalfUp (a b : Nat) : Nat := if b ≤ 2 * (a % b) then a / b + 1 else a / b

/-- A division is inexact when it leaves a remainder (00_scope, Arithmetic and Rounding). -/
def inexactDiv (a b : Nat) : Bool := a % b != 0

/-- Bring `x` into `lo..hi`. -/
def clampNat (lo hi x : Nat) : Nat := max lo (min hi x)

/-- The span of a 7-bit span code e × 8 + m: (8 + m) × 2^e ms (00_scope, Span Code). -/
def spanMs (code : Nat) : Nat := (8 + code % 8) * 2 ^ (code / 8)

/-! ## Slots of the Plan Store -/

/-- The record of slot `k`, if it holds one. -/
def slotGet {α : Type} (l : Slots α) (k : Nat) : Option α := l.lookup k

/-- Whether slot `k` holds a record. -/
def slotHas {α : Type} (l : Slots α) (k : Nat) : Bool := (slotGet l k).isSome

/-- Write slot `k`, keeping the slot numbers rising. -/
def slotPut {α : Type} (k : Nat) (v : α) : Slots α → Slots α
  | [] => [(k, v)]
  | (j, w) :: l =>
    if k < j then (k, v) :: (j, w) :: l
    else if k = j then (k, v) :: l
    else (j, w) :: slotPut k v l

/-! ## Tables of fixed length -/

/-- Apply `f` to every element of a table. -/
def vecMap {α : Type} {n : Nat} (f : α → α) (v : Vector α n) : Vector α n :=
  ⟨⟨v.toList.map f⟩, by simp⟩

/-- Element `i` of a table, or `d` beyond its end. -/
def vecGet {α : Type} {n : Nat} (v : Vector α n) (i : Nat) (d : α) : α := (v.toList[i]?).getD d

/-- Update element `i` of a table; nothing beyond its end. -/
def vecMod {α : Type} {n : Nat} (v : Vector α n) (i : Nat) (f : α → α) : Vector α n :=
  ⟨⟨v.toList.modify i f⟩, by simp⟩

/-! ## Inputs with a deglitch -/

/-- A raw level change at tick `now` under a deglitch of `ticks`: back to the deglitched level stops
the deglitch, away from it starts it, and the level already held changes nothing (R21, R80, R81). -/
def Deglitch.input (d : Deglitch) (b : Bool) (now ticks : Nat) : Deglitch :=
  if b = d.raw then d
  else if b = d.level then { d with raw := b, endsAt := none }
  else { d with raw := b, endsAt := some (now + ticks) }

/-- The deglitched level takes the raw level (R21, R80, R81). -/
def Deglitch.take (d : Deglitch) : Deglitch := { d with level := d.raw, endsAt := none }

end Sys2Proof.Machine
end

