-- ==== Sys2Proof/Machine/Formats.lean ====
section
/-! DEFINITION. The frames of the rack bus: the bytes of the payloads the station sends and reads
(R190, R193, R194, R196), the bits of a frame on the line and its check (R126, R127, R192). -/

namespace Sys2Proof.Machine

/-! ## Fields of a payload (R190: most significant byte first) -/

/-- Byte `i` of a payload; a byte that is not there reads as 0 (assumption 21). -/
def byteAt (p : List Byte) (i : Nat) : Nat := (p.getD i 0).toNat

/-- The field of two bytes from byte `i`. -/
def word16 (p : List Byte) (i : Nat) : Nat := byteAt p i * 256 + byteAt p (i + 1)

/-- The field of three bytes from byte `i`. -/
def word24 (p : List Byte) (i : Nat) : Nat := word16 p i * 256 + byteAt p (i + 2)

/-- The field of four bytes from byte `i`. -/
def word32 (p : List Byte) (i : Nat) : Nat := word16 p i * 65536 + word16 p (i + 2)

/-- Two's complement of 32 bits (R190). -/
def signed32 (n : Nat) : Int := if n < 2 ^ 31 then (n : Int) else (n : Int) - 2 ^ 32

/-- Two's complement of 16 bits (R190). -/
def signed16 (n : Nat) : Int := if n < 2 ^ 15 then (n : Int) else (n : Int) - 2 ^ 16

/-- One byte of a number. -/
def toByte (n : Nat) : Byte := BitVec.ofNat 8 n

/-- `n` bytes of a number, most significant first (R190). -/
def bigEndian : Nat → Nat → List Byte
  | 0, _ => []
  | n + 1, x => bigEndian n (x / 256) ++ [toByte x]

/-- A signed number of `n` bytes in two's complement, most significant byte first (R190). -/
def bigEndianInt (n : Nat) (x : Int) : List Byte := bigEndian n (x % (256 ^ n : Nat)).toNat

/-- A flag as a bit of the given weight. -/
def flagBit (b : Bool) (weight : Nat) : Nat := if b then weight else 0

/-! ## The frames the station sends (R135, R193, R194, R196) -/

/-- The code of a resource (R193). -/
def resourceCode : Resource → Nat
  | .panel => 0 | .gantry => 1 | .budget => 2

/-- The kind number of a frame the station sends (R192). -/
def TxBody.kind : TxBody → Nat
  | .addressTaken .. => 1 | .attention => 2 | .rebuildEnd _ => 3
  | .holding .. => 8 | .release .. => 9 | .claim .. => 10 | .verdictNotice .. => 11
  | .promptPost .. => 12 | .promptWithdraw _ => 13 | .measureRequest .. => 16
  | .accept .. => 48 | .refuse .. => 49 | .statusReport .. => 50 | .verdictSegment .. => 51

/-- The class of a frame the station sends (R135). -/
def TxBody.cls : TxBody → Nat
  | .addressTaken .. | .attention | .rebuildEnd _ => 0
  | .holding .. | .release .. => 1
  | .claim .. | .verdictNotice .. | .promptPost .. | .promptWithdraw _ | .measureRequest .. => 2
  | .accept .. | .refuse .. | .statusReport .. | .verdictSegment .. => 3

/-- The destination of a frame the station sends: all nodes, panel 29, gantry 28 or line node 30 (R135). -/
def TxBody.dst : TxBody → Nat
  | .addressTaken .. | .attention | .rebuildEnd _ | .holding .. | .release .. | .claim ..
  | .verdictNotice .. => 0
  | .promptPost .. | .promptWithdraw _ => 29
  | .measureRequest .. => 28
  | .accept .. | .refuse .. | .statusReport .. | .verdictSegment .. => 30

/-- The producer in whose share a frame counts (R134). -/
def TxBody.producer : TxBody → Producer
  | .addressTaken .. | .attention | .rebuildEnd _ => .joinView
  | .holding r _ | .release r _ | .claim r _ => .claimUnit r
  | .verdictNotice .. => .engine
  | .promptPost .. | .promptWithdraw _ => .promptQueue
  | .measureRequest .. => .gantry
  | .accept .. | .refuse .. | .statusReport .. | .verdictSegment .. => .handler

/-- The share of a producer (R134). -/
def Producer.share : Producer → Nat
  | .handler => 4 | .claimUnit _ => 1 | .promptQueue => 2 | .gantry => 1 | .engine => 2 | .joinView => 2

/-- The payload bytes of a frame sent by the station of the given address (R193, R194, R196). -/
def TxBody.payload (address : Nat) : TxBody → List Byte
  | .addressTaken q d rev => [toByte address, toByte q, toByte d, rev]
  | .attention => [toByte address]
  | .rebuildEnd o => [toByte o]
  | .holding r a | .release r a | .claim r a => toByte (resourceCode r) :: bigEndian 2 a
  | .verdictNotice v c fx => toByte v :: (bigEndian 2 c ++ [toByte fx])
  | .promptPost t k m param =>
    t :: toByte k :: (bigEndian 2 m ++ toByte (flagBit param.isSome 1) :: bigEndianInt 4 (param.getD 0))
  | .promptWithdraw t => [t]
  | .measureRequest t sp ex => [t, toByte sp, toByte ex]
  | .accept k t res => toByte k :: t :: bigEndian 2 res
  | .refuse k t c code q => toByte k :: t :: toByte c :: toByte code :: bigEndian 2 q
  | .statusReport t fs => toByte 40 :: t :: fs
  | .verdictSegment t fs => toByte 37 :: t :: fs

/-- The frame on the line (R126, R192). -/
def TxBody.frame (address : Nat) (b : TxBody) : Frame :=
  { cls := BitVec.ofNat 2 b.cls, src := BitVec.ofNat 5 address, kind := BitVec.ofNat 6 b.kind,
    dst := BitVec.ofNat 5 b.dst, payload := b.payload address }

/-- The frame of a row's fixed kind. -/
def deliveryFrame (kind : Nat) (d : Delivery) : Frame :=
  { cls := d.cls, src := d.src, kind := BitVec.ofNat 6 kind, dst := d.dst, payload := d.payload }

/-! ## Bits on the line (R126, R127, R192). A dominant bit is 0, that is `false`. -/

/-- The low `n` bits of a number, most significant first (R190). -/
def bitsOf : Nat → Nat → List Bool
  | 0, _ => []
  | n + 1, x => bitsOf n (x / 2) ++ [x % 2 == 1]

/-- The number that bits spell, most significant first (R190). -/
def numOf (bs : List Bool) : Nat := bs.foldl (fun n b => 2 * n + (if b then 1 else 0)) 0

/-- One bit through the check register, generator x^16 + x^12 + x^5 + 1 (R127). -/
def crcStep (r : BitVec 16) (b : Bool) : BitVec 16 :=
  if (r.getLsbD 15 ^^ b) then (r <<< 1) ^^^ 0x1021#16 else r <<< 1

/-- The check over a list of bits, the register starting with all ones (R127). -/
def crc (bs : List Bool) : BitVec 16 := bs.foldl crcStep 0xFFFF#16

/-- The bits the check is computed over: class, source, kind, destination, length, payload (R127). -/
def frameBody (f : Frame) : List Bool :=
  bitsOf 2 f.cls.toNat ++ bitsOf 5 f.src.toNat ++ bitsOf 6 f.kind.toNat ++ bitsOf 5 f.dst.toNat
    ++ bitsOf 5 f.payload.length ++ f.payload.flatMap (fun b => bitsOf 8 b.toNat)

/-- The bits of a frame from its start bit through its check (R192). -/
def frameBits (f : Frame) : List Bool :=
  false :: (frameBody f ++ bitsOf 16 (crc (frameBody f)).toNat)

/-- A frame lasts 41 + 8 × length bit times, its reject slot included (R126). -/
def frameTicks (f : Frame) : Nat := (41 + 8 * f.payload.length) * Config.ticksPerBit

/-- `n` bytes from a list of bits. -/
def bytesOf : Nat → List Bool → List Byte
  | 0, _ => []
  | n + 1, bs => toByte (numOf (bs.take 8)) :: bytesOf n (bs.drop 8)

/-- The frame that received bits hold by their fields (R192). -/
def frameOfBits (line : List Bool) : Frame :=
  let field := fun at' n => numOf ((line.drop at').take n)
  { cls := BitVec.ofNat 2 (field 1 2), src := BitVec.ofNat 5 (field 3 5),
    kind := BitVec.ofNat 6 (field 8 6), dst := BitVec.ofNat 5 (field 14 5),
    payload := bytesOf (field 19 5) (line.drop 24) }

/-- A frame is well formed at a node that has received every bit through the check, and whose check is
right (R126): the bits are then those of the frame they hold. A length field of 25..31, which R192 gives no
frame, is taken as not well formed, whatever its check (assumption 43). -/
def wellFormedBits (line : List Bool) : Bool :=
  decide (numOf ((line.drop 19).take 5) ≤ 24) && line == frameBits (frameOfBits line)

/-! ## Payload lengths (R192) -/

/-- The payload length of a command kind; PLAN RECORD is checked by the Plan Store (R141, R192). -/
def commandLength : Nat → Nat
  | 32 => 3 | 34 => 6 | 35 => 20 | 36 => 3 | 37 => 4 | 38 => 3
  | _ => 1

/-- The payload length of a frame kind that is routed to a block (R192). -/
def kindLength : Nat → Nat
  | 1 => 4 | 2 => 1 | 3 => 1 | 4 => 0 | 5 => 0 | 6 => 1 | 8 => 3 | 9 => 3 | 10 => 3 | 11 => 4
  | 14 => 6 | 17 => 5 | 20 => 14
  | _ => 0

end Sys2Proof.Machine
end

