-- ==== Sys2Proof/Machine/Rbi.lean ====
section
/-! DEFINITION. The transmit queue and the bus states of the Rack Bus Interface (R126 to R134). -/

namespace Sys2Proof.Machine

/-- How many frames of a producer stand in the transmit queue (R134). -/
def txCount (q : List TxEntry) (p : Producer) : Nat := q.countP (fun e => e.body.producer == p)

/-- Whether a producer's share has room (R134). -/
def txRoom (q : List TxEntry) (p : Producer) : Bool := decide (txCount q p < p.share)

/-- Place a frame by class, and within its class behind every older one (R133). -/
def txInsert (e : TxEntry) : List TxEntry → List TxEntry
  | [] => [e]
  | x :: xs => if x.body.cls ≤ e.body.cls then x :: txInsert e xs else e :: x :: xs

/-- Queue a frame if its producer's share has room; the frame is lost to the queue otherwise (R134). -/
def State.send (s : State) (b : TxBody) : State :=
  if txRoom s.rbi.queue b.producer then
    s.modRbi (fun r => { r with queue := txInsert ⟨b, false⟩ r.queue })
  else s

/-- The producer's withdraw request: taken for frames that are not on the line (R133). -/
def State.withdraw (s : State) (p : TxBody → Bool) : State :=
  s.modRbi (fun r => { r with queue := r.queue.filter (fun e => e.onLine || !p e.body) })

/-- The entry on the line, if the station is sending (R133). -/
def onLine? (q : List TxEntry) : Option TxEntry := q.find? (fun e => e.onLine)

/-- Whether a frame satisfying `p` stands in the transmit queue. -/
def State.queued (s : State) (p : TxBody → Bool) : Bool := s.rbi.queue.any (fun e => p e.body)

/-- The Claim Unit's queued frame for a resource (R153). -/
def claimEntry (q : List TxEntry) (r : Resource) : Option TxEntry :=
  q.find? (fun e => e.body.producer == .claimUnit r)

/-- In IDLE the RBI starts the frame at the head of a queue that holds one (R128); at the end of the
event that places it (assumption 9). -/
def State.startBus (s : State) : State :=
  match s.rbi.bus, s.rbi.queue with
  | .idle, e :: es =>
    s.modRbi (fun r => { r with bus := .sending s.now, queue := { e with onLine := true } :: es })
  | _, _ => s

/-- A frame has ended: the RBI counts recessive bit times again, and a frame that did not get through
keeps its place (R128, R129; SETTLING by assumption 8). -/
def State.endFrame (s : State) : State :=
  s.modRbi (fun r => { r with bus := .settling, settleFrom := s.now, rejectDriven := false,
                              queue := r.queue.map (fun e => { e with onLine := false }) })

/-- Remove the entry on the line (R132). -/
def dropOnLine (q : List TxEntry) : List TxEntry := q.filter (fun e => !e.onLine)

/-- RACK HALT removes every class-2 frame (R133). -/
def purgeClass2 (q : List TxEntry) : List TxEntry := q.filter (fun e => e.body.cls != 2)

/-- Ten recessive bit times have passed in SETTLING: IDLE (R128). -/
def State.busIdle (s : State) (dt : Nat) : State :=
  match s.rbi.bus with
  | .settling =>
    (s.elapseTo dt (s.rbi.settleFrom + Config.idleBits * Config.ticksPerBit)).modRbi
      (fun r => { r with bus := .idle })
  | _ => s.elapse dt

/-- Arbitration is lost: the RBI receives the winning frame and its own frame keeps its place (R129). In IDLE
the start of another node's frame is received in the same way (R128, assumption 8); in SETTLING the bus state stays
SETTLING while such a frame is received (assumption 52). -/
def State.loseArbitration (s : State) : State :=
  match s.rbi.bus with
  | .sending _ =>
    s.modRbi (fun r => { r with bus := .receiving,
                                queue := r.queue.map (fun e => { e with onLine := false }) })
  | .idle => s.modRbi (fun r => { r with bus := .receiving })
  | _ => s

/-- Whether a frame of another node that lasts `ticks` and ends now had its start bit before settling began,
so that the station has not received it (R128). In RECEIVING and SENDING the frame on the line is received, and in
SETTLING one that began after settling did (assumption 52). -/
def State.missed (s : State) (ticks : Nat) : Bool :=
  match s.rbi.bus with
  | .settling | .idle => decide (s.now < s.rbi.settleFrom + ticks)
  | _ => false

/-- Whether a received frame is one of the station's commands (R131, R136). -/
def forCommandQueue (address : Nat) (f : Frame) : Bool :=
  decide (32 ≤ f.kind.toNat) && decide (f.kind.toNat ≤ 43) && f.src.toNat == 30 && f.dst.toNat == address

/-- The receiving RBI drives the reject slot of a well-formed frame when it is a command for this
station and the command queue holds 4 (R131). -/
def State.refusesFrame (s : State) (f : Frame) : Bool :=
  forCommandQueue s.rbi.address f && decide (Config.commandQueueSize ≤ s.handler.queue.length)

/-- The ticks of a frame whose bits through the check are `line`, with its reject slot (R126). -/
def lineTicks (line : List Bool) : Nat := (line.length + 1) * Config.ticksPerBit

/-- Whether the RBI drives the reject slot of the frame whose bits it received: when it is not sending, not
SILENT and has received the frame (R128), in SETTLING too (assumption 52), for one not well formed or refused (R131). -/
def State.drivesReject (s : State) (line : List Bool) : Bool :=
  match s.rbi.bus with
  | .silent | .sending _ => false
  | _ => !s.missed (lineTicks line) && (!wellFormedBits line || s.refusesFrame (frameOfBits line))

end Sys2Proof.Machine
end

