-- ==== Sys2Proof/Machine/Operands.lean ====
section
/-! DEFINITION. The operands the commands carry in their bytes: the plan records of R195, and the
legal ranges RACK PARAMETERS is brought into (R186). -/

namespace Sys2Proof.Machine

/-- An optional span or position of seven bits with its presence flag in bit 7 (R195). -/
def optional7 (b : Nat) : Option Nat := if 128 ≤ b then some (b % 128) else none

/-- CHANNEL SETUP of the channel whose number is the slot (R195). -/
def parseChannelSetup (slot : Nat) (p : List Byte) : ChannelSetup :=
  if slot ≤ 4 then
    ⟨byteAt p 0, byteAt p 1, byteAt p 2, byteAt p 3, word16 p 4, 0⟩
  else if slot ≤ 8 then ⟨0, 0, 0, 0, 0, byteAt p 0⟩
  else ⟨byteAt p 0, 0, 0, 0, 0, 0⟩

/-- CELL SETUP of the cell whose number is the slot (R195). -/
def parseCellSetup (slot : Nat) (p : List Byte) : CellSetup :=
  if slot ≤ 3 then ⟨byteAt p 0, word16 p 1, word16 p 3, 0, 0⟩
  else if slot ≤ 7 then ⟨0, 0, 0, byteAt p 0, byteAt p 1⟩
  else ⟨0, 0, 0, 0, byteAt p 0⟩

/-- SCENE ITEM (R195). -/
def parseSceneItem (p : List Byte) : SceneItem :=
  match byteAt p 0 with
  | 0 => .channel (byteAt p 1) (word32 p 2) (optional7 (byteAt p 6)) (word16 p 7) (byteAt p 9 % 128)
  | 1 => .network (byteAt p 1) (byteAt p 2) (byteAt p 3 % 2 == 1) (byteAt p 3 / 2 % 2 == 1)
          ((optional7 (byteAt p 4)).map (fun pos => (pos, byteAt p 5)))
  | t => .other t

/-- The source fields of a STEP from byte 10 (R195). -/
def parseSource (type : Nat) (p : List Byte) : StepSource :=
  match type with
  | 0 => .none
  | 1 => .cell (byteAt p 10) (byteAt p 11) (word16 p 12) (word16 p 14)
  | 2 => .netfield (byteAt p 10) (byteAt p 11) (byteAt p 12) (byteAt p 13)
  | 3 => .elapsed (byteAt p 10) (byteAt p 11)
  | 4 => .event (byteAt p 10) (byteAt p 11)
  | 5 => .spot (byteAt p 10) (byteAt p 11)
  | 6 => .prompt (byteAt p 10) (word16 p 11) (byteAt p 13) (signed32 (word32 p 14))
  | t => .other t

/-- STEP (R195). -/
def parseStep (p : List Byte) : StepRecord :=
  { kind := byteAt p 0
    scene := if 128 ≤ byteAt p 1 then some (byteAt p 1 % 64, byteAt p 1 / 64 % 2 == 1) else none
    dwell := optional7 (byteAt p 2)
    settle := optional7 (byteAt p 3)
    retest := byteAt p 4 / 16
    count := byteAt p 4 % 16
    window := if 128 ≤ byteAt p 5 then some (byteAt p 5 % 64) else none
    auto := optional7 (byteAt p 6)
    failCode := word16 p 7
    stop := decide (128 ≤ byteAt p 9)
    source := parseSource (byteAt p 9 % 128) p }

/-- The record of a kind number in its layout (R195); none for an unknown kind. -/
def parseRecord (kind slot : Nat) (p : List Byte) : Option PlanRecord :=
  match kind with
  | 1 => some (.channelSetup (parseChannelSetup slot p))
  | 2 => some (.cellSetup (parseCellSetup slot p))
  | 3 => some (.condition ⟨byteAt p 0, byteAt p 1, byteAt p 2, byteAt p 3, byteAt p 4⟩)
  | 4 => some (.window ⟨signed32 (word32 p 0), signed32 (word32 p 4), word32 p 8⟩)
  | 5 => some (.sceneHead ⟨word16 p 0, byteAt p 2 % 2 == 1, byteAt p 3, false⟩)
  | 6 => some (.sceneItem (parseSceneItem p))
  | 7 => some (.netEntry ⟨word16 p 0, byteAt p 2, word16 p 3, (p.drop 5).take 8,
            optional7 (byteAt p 13), optional7 (byteAt p 14)⟩)
  | 8 => some (.netBinding ⟨byteAt p 0, byteAt p 1, byteAt p 2, byteAt p 3, word16 p 4, word16 p 6,
            signed16 (word16 p 8)⟩)
  | 9 => some (.capture ⟨word16 p 0, word16 p 2⟩)
  | 10 => some (.contactPair ⟨byteAt p 0, word32 p 1, byteAt p 5, byteAt p 6⟩)
  | 11 => some (.step (parseStep p))
  | _ => none

/-- The length of the fields of a record kind (R195). -/
def recordLength : Nat → Nat
  | 1 => 6 | 2 => 6 | 3 => 5 | 4 => 12 | 5 => 4 | 6 => 10 | 7 => 15 | 8 => 10 | 9 => 4 | 10 => 7
  | 11 => 18
  | _ => 0

/-- The slot numbers of a record kind: lowest and highest accepted by check 6 of R3. -/
def slotRange : Nat → Nat × Nat
  | 1 => (1, 15) | 2 => (0, 11) | 3 => (0, 7) | 4 => (0, 63) | 5 => (0, 31) | 6 => (0, 511)
  | 7 => (0, 23) | 8 => (0, 31) | 9 => (0, 15) | 10 => (0, 15) | _ => (0, 95)

/-- Off, or brought into 2..`hi` (R186: 1 becomes 2, above `hi` becomes `hi`). -/
def limitField (hi x : Nat) : Nat := if x = 0 then 0 else clampNat 2 hi x

/-- The rack parameters of a RACK PARAMETERS payload as they stand in the frame (R193). -/
def rawParams (p : List Byte) : RackParams :=
  ⟨word16 p 1, word16 p 3, byteAt p 5, byteAt p 6, byteAt p 7, word24 p 8, byteAt p 11, byteAt p 12,
   byteAt p 13⟩

/-- Each field brought into its legal range (R186). -/
def legalParams (r : RackParams) : RackParams :=
  { total := min 4000 r.total
    margin := min 2000 r.margin
    streakLimit := limitField 15 r.streakLimit
    suspectLimit := limitField 8 r.suspectLimit
    interval := clampNat 1 255 r.interval
    wearLimit := r.wearLimit
    clampTimeout := min 127 r.clampTimeout
    resourceWait := min 127 r.resourceWait
    gantryTimeout := min 127 r.gantryTimeout }

end Sys2Proof.Machine
end

