-- ==== Sys2Proof/Machine/PlanStore.lean ====
section
/-! DEFINITION. The Plan Store: its emptying, its slots, the records in force, and the walk that
validates a plan at its seal (R1 to R19). -/

namespace Sys2Proof.Machine

/-! ## Emptying and writing (R1, R2, R4) -/

/-- Whether a scene is RETAINED (R1). -/
def Plan.retained (p : Plan) (scene : Nat) : Bool :=
  match slotGet p.heads scene with
  | some h => h.retained
  | none => false

/-- Setups at their defaults, every slot of kinds 3, 4 and 7 to 11 emptied, and every scene that is
not RETAINED emptied; the written-slot count 0 (R1, R2), and with it the step count, which the spec leaves
open until the next PLAN SEAL (assumption 3). -/
def Plan.emptied (p : Plan) : Plan :=
  { p with written := 0, stepCount := 0, channelSetups := [], cellSetups := [], conditions := [],
           windows := [], heads := p.heads.filter (fun e => e.2.retained),
           items := p.items.filter (fun e => p.retained (e.1 / 16)),
           entries := [], bindings := [], captures := [], pairs := [], steps := [] }

/-- PLAN BEGIN taken with plan id `id` (R2). -/
def Plan.begin (p : Plan) (id : Nat) : Plan := { p.emptied with state := .loading, id := some id }

/-- The warm reset of the Plan Store (R1). -/
def Plan.warmReset (p : Plan) : Plan := { p.emptied with state := .empty, id := none }

/-- A SCENE HEAD written to a RETAINED scene first discards that scene (R4). -/
def Plan.discardRetained (p : Plan) (scene : Nat) : Plan :=
  if p.retained scene then
    { p with heads := p.heads.filter (fun e => e.1 != scene),
             items := p.items.filter (fun e => e.1 / 16 != scene) }
  else p

/-- The written-slot count rises by 1 when the slot has not been written since PLAN BEGIN, that is,
when it holds no record (R4). -/
def Plan.counted (p : Plan) (occupied : Bool) : Plan :=
  if occupied then p else { p with written := p.written + 1 }

/-- Write a record into its slot (R4). -/
def Plan.write (p : Plan) (slot : Nat) : PlanRecord → Plan
  | .channelSetup r =>
    { p.counted (slotHas p.channelSetups slot) with channelSetups := slotPut slot r p.channelSetups }
  | .cellSetup r =>
    { p.counted (slotHas p.cellSetups slot) with cellSetups := slotPut slot r p.cellSetups }
  | .condition r => { p.counted (slotHas p.conditions slot) with conditions := slotPut slot r p.conditions }
  | .window r => { p.counted (slotHas p.windows slot) with windows := slotPut slot r p.windows }
  | .sceneHead r =>
    let q := p.discardRetained slot
    { q.counted (slotHas q.heads slot) with heads := slotPut slot r q.heads }
  | .sceneItem r => { p.counted (slotHas p.items slot) with items := slotPut slot r p.items }
  | .netEntry r => { p.counted (slotHas p.entries slot) with entries := slotPut slot r p.entries }
  | .netBinding r => { p.counted (slotHas p.bindings slot) with bindings := slotPut slot r p.bindings }
  | .capture r => { p.counted (slotHas p.captures slot) with captures := slotPut slot r p.captures }
  | .contactPair r => { p.counted (slotHas p.pairs slot) with pairs := slotPut slot r p.pairs }
  | .step r => { p.counted (slotHas p.steps slot) with steps := slotPut slot r p.steps }

/-- The checks 2 to 8 of R3 on a PLAN RECORD, in order: the refusal's code and qualifier. -/
def Plan.recordRefusal (p : Plan) (id kind slot : Nat) (fields : List Byte) : Option (Nat × Nat) :=
  if p.state ≠ .loading then some (1, 0)
  else if p.id ≠ some id then some (2, 0)
  else if ¬ (1 ≤ kind ∧ kind ≤ 11) then some (4, 0)
  else if fields.length ≠ recordLength kind then some (8, 0)
  else if ¬ ((slotRange kind).1 ≤ slot ∧ slot ≤ (slotRange kind).2) then some (5, slot)
  else if (kind = 5 ∧ slot = 0) ∨ (kind = 6 ∧ slot < 16) then some (6, 0)
  else if kind = 6 ∧ p.retained (slot / 16) then some (7, 5000 + slot / 16)
  else none

/-! ## Records in force: read only while the plan is SEALED (1.1, R77) -/

/-- The default CHANNEL SETUP (R6): NORMAL, AT-BOUNDARY, OWN, VOLTAGE. -/
def defaultChannelSetup : ChannelSetup := ⟨0, 0, 0, 0, 0, 0⟩

/-- The default CELL SETUP (R6). -/
def defaultCellSetup (cell : Nat) : CellSetup :=
  if cell = 0 then ⟨0, 10000, 0, 0, 0⟩
  else if cell = 1 then ⟨0, 20000, 0, 0, 0⟩
  else if cell ≤ 3 then ⟨2, 40000, 0, 0, 0⟩
  else ⟨0, 0, 0, 0, 0⟩

/-- The CHANNEL SETUP in force (R6, assumption 25). -/
def Plan.channelSetup (p : Plan) (c : Nat) : ChannelSetup :=
  if p.state = .sealed then (slotGet p.channelSetups c).getD defaultChannelSetup
  else defaultChannelSetup

/-- The CELL SETUP in force (R77). -/
def Plan.cellSetup (p : Plan) (c : Nat) : CellSetup :=
  if p.state = .sealed then (slotGet p.cellSetups c).getD (defaultCellSetup c) else defaultCellSetup c

/-- The full scale of an analogue cell under a setup (R8, 5.1). -/
def cellFullScale (cell : Nat) (u : CellSetup) : Nat :=
  if cell = 0 then 10000
  else if cell = 1 then 20000
  else match u.range with
    | 0 => 5000
    | 1 => 20000
    | _ => 40000

/-- The declared draw of a scene (R11, R12). -/
def Plan.draw (p : Plan) (scene : Nat) : Nat :=
  if scene = 0 then 0 else ((slotGet p.heads scene).map (·.draw)).getD 0

/-- The items of a scene: those at indexes below its item count, in index order (R12). -/
def Plan.itemsOf (p : Plan) (scene : Nat) : List SceneItem :=
  match slotGet p.heads scene with
  | none => []
  | some h => (List.range h.count).filterMap (fun i => slotGet p.items (scene * 16 + i))

/-! ## Validation (R7 to R19) -/

/-- A check of one record: its code, whether it fails, its qualifier. Listed in ascending code order (R19). -/
abbrev Check := Nat × Bool × Nat

/-- The first failing check of a list: its code and qualifier. -/
def firstFailing (l : List Check) : Option (Nat × Nat) :=
  (l.find? (fun c => c.2.1)).map (fun c => (c.1, c.2.2))

/-- Whether `x` lies outside `lo..hi`. -/
def outside (lo hi x : Nat) : Bool := decide (x < lo) || decide (hi < x)

/-- Whether a channel is a PULSE channel (R7). -/
def isPulse (c : Nat) : Bool := decide (1 ≤ c) && decide (c ≤ 4)

/-- Whether a channel is a SWITCH channel (R7). -/
def isSwitch (c : Nat) : Bool := decide (9 ≤ c) && decide (c ≤ 15)

/-- Kind 1 (R7). The divisor and channel k are checked for source DERIVED (assumption 22). -/
def checkChannelSetup (c : Nat) (r : ChannelSetup) : List Check :=
  let q := 1000 + c
  if c ≤ 4 then
    [(24, decide (1 < r.polarity) || decide (1 < r.reload) || decide (1 < r.source)
          || (r.source == 1 && r.divisor == 0), q),
     (27, r.source == 1 && outside 1 (c - 1) r.derivedFrom, q)]
  else if c ≤ 8 then [(24, decide (1 < r.levelKind), q)]
  else [(24, decide (1 < r.polarity), q)]

/-- Kind 2 (R8). -/
def checkCellSetup (c : Nat) (r : CellSetup) : List Check :=
  let q := 2000 + c
  if c ≤ 3 then
    [(24, (decide (2 ≤ c) && decide (2 < r.range)) || decide (cellFullScale c r < r.threshold)
          || decide (r.threshold < r.hysteresis), q)]
  else if c ≤ 7 then
    [(24, decide (2 < r.edge) || !([0, 1, 4, 16].contains r.deglitch), q)]
  else [(24, decide (255 < r.deglitch), q)]

/-- Kind 3 (R9). -/
def checkCondition (k : Nat) (r : Condition) : List Check :=
  [(24, decide (16 < r.input0) || decide (16 < r.input1) || decide (16 < r.input2), 3000 + k)]

/-- Kind 4 (R10). -/
def checkWindow (k : Nat) (r : Window) : List Check :=
  [(24, decide (2147483647 < r.guardBand), 4000 + k), (25, decide (r.high < r.low), 4000 + k)]

/-- The lowest item index below the item count with no item (R14). -/
def Plan.missingItem (p : Plan) (scene count : Nat) : Option Nat :=
  (List.range count).find? (fun i => !slotHas p.items (scene * 16 + i))

/-- Kind 5 (R12, R14): code 28 is found at the head and names the missing slot (R19). -/
def checkSceneHead (p : Plan) (k : Nat) (r : SceneHead) : List Check :=
  let miss := p.missingItem k r.count
  [(24, decide (16 < r.count), 5000 + k),
   (28, miss.isSome, 6000 + k * 16 + miss.getD 0),
   (33, decide (400 < r.draw), 5000 + k)]

/-- Whether two items of a scene name the same target (R14). -/
def sameTarget : SceneItem → SceneItem → Bool
  | .channel c .., .channel c' .. => c == c'
  | .network e .., .network e' .. => e == e'
  | _, _ => false

/-- Whether an earlier item of the scene names the target of item `i` (R14). -/
def Plan.duplicateItem (p : Plan) (slot : Nat) (r : SceneItem) : Bool :=
  (List.range (slot % 16)).any (fun j =>
    match slotGet p.items (slot / 16 * 16 + j) with
    | some r' => sameTarget r' r
    | none => false)

/-- Kind 6 (R13, R14). A byte override of a DISABLE item is disregarded. -/
def checkSceneItem (p : Plan) (slot : Nat) (r : SceneItem) : List Check :=
  let q := 6000 + slot
  let noHead := !slotHas p.heads (slot / 16)
  match r with
  | .channel c v ramp duty _ =>
    [(24, decide (15 < c) || (isSwitch c && decide (2 < v)) || (isPulse c && outside 1 9999 duty), q),
     (26, noHead, q),
     (27, ramp.isSome && outside 1 8 c, q),
     (29, p.duplicateItem slot r, q)]
  | .network e action _ _ forced =>
    let len := ((slotGet p.entries e).map (·.length)).getD 0
    [(24, decide (23 < e) || decide (1 < action), q),
     (26, noHead || !slotHas p.entries e, q),
     (29, p.duplicateItem slot r, q),
     (30, action == 0 && (match forced with | some (pos, _) => decide (len ≤ pos) | none => false), q)]
  | .other _ => [(24, true, q)]

/-- Kind 7 (R16). -/
def checkNetEntry (k : Nat) (r : NetEntry) : List Check :=
  let q := 7000 + k
  let alive := r.alive.getD 0
  let sum := r.checksum.getD 0
  [(24, decide (2047 < r.identifier) || decide (8 < r.length) || outside 5 2000 r.period
        || (r.alive.isSome && decide (15 < alive))
        || (r.checksum.isSome && (decide (14 < sum) || sum % 2 == 1)), q),
   (30, (r.alive.isSome && decide (2 * r.length ≤ alive))
        || (r.checksum.isSome && decide (r.length ≤ sum / 2)), q),
   (31, r.alive.isSome && r.checksum.isSome && alive / 2 == sum / 2, q)]

/-- The nibbles a field of `length` nibbles from `start` covers (R16, R70). -/
def fieldNibbles (start length : Nat) : List Nat := (List.range length).map (fun i => (start + i) % 16)

/-- Kind 8 (R16). -/
def checkNetBinding (p : Plan) (k : Nat) (r : NetBinding) : List Check :=
  let q := 8000 + k
  let e := slotGet p.entries r.entry
  let len := (e.map (·.length)).getD 0
  let covers := fun n => (fieldNibbles r.start r.length).contains n
  [(24, decide (23 < r.entry) || decide (15 < r.start) || outside 1 8 r.length
        || decide (15 < r.channel) || r.multiplier == 0 || r.divisor == 0, q),
   (26, e.isNone, q),
   (30, decide (len < 8) && decide (2 * len < r.start + r.length), q),
   (31, (match e.bind (·.alive) with | some a => covers a | none => false)
        || (match e.bind (·.checksum) with | some c => covers c || covers (c + 1) | none => false), q)]

/-- Kind 9 (R17): a duplicate identifier is reported on the higher slot. -/
def checkCapture (p : Plan) (k : Nat) (r : CaptureRecord) : List Check :=
  [(24, decide (2047 < r.identifier) || outside 5 2000 r.period, 9000 + k),
   (32, p.captures.any (fun e => decide (e.1 < k) && e.2.identifier == r.identifier), 9000 + k)]

/-- Kind 10 (R17). -/
def checkContactPair (p : Plan) (k : Nat) (r : ContactPair) : List Check :=
  let q := 10000 + k
  [(24, decide (15 < r.channel) || (isSwitch r.channel && decide (1 < r.value)) || decide (11 < r.cell)
        || decide (63 < r.window), q),
   (26, !slotHas p.windows r.window, q),
   (27, !outside 4 11 r.cell, q)]

/-- Field values of a step's source outside R18's ranges (R18, R195); a source type that no kind has is a
matter of code 27. -/
def sourceOutside : StepSource → Bool
  | .none => false
  | .cell c m g n => decide (11 < c) || decide (3 < m) || outside 1 1000 g || outside 1 256 n
  | .netfield c s l sg => decide (15 < c) || decide (15 < s) || outside 1 8 l || decide (1 < sg)
  | .elapsed c e => decide (7 < c) || decide (1 < e)
  | .event c e => decide (7 < c) || decide (3 < e)
  | .spot s e => decide (15 < s) || decide (7 < e)
  | .prompt k m pr _ => decide (2 < k) || decide (999 < m) || decide (1 < pr)
  | .other _ => false

/-- Whether a window is required by the step's kind and source (R18); of a MEASURE or LIGHT step with a source type
outside R18's table too, so that its missing window fails first (assumption 54). -/
def StepRecord.needsWindow (r : StepRecord) : Bool :=
  match r.kind, r.source with
  | 1, _ => true
  | 3, _ => true
  | 4, .prompt 1 _ _ _ => true
  | _, _ => false

/-- Whether the source type belongs to the step's kind (R18). -/
def StepRecord.sourceBelongs (r : StepRecord) : Bool :=
  match r.kind, r.source with
  | 0, .none => true
  | 1, .cell .. => true
  | 1, .netfield .. => true
  | 1, .elapsed .. => true
  | 2, .event .. => true
  | 3, .spot .. => true
  | 4, .prompt .. => true
  | _, _ => false

/-- A reference of the source to a condition or capture without a record (R18). -/
def Plan.sourceMissing (p : Plan) : StepSource → Bool
  | .netfield c .. => !slotHas p.captures c
  | .elapsed c _ => !slotHas p.conditions c
  | .event c _ => !slotHas p.conditions c
  | _ => false

/-- A CELL source whose mode does not suit its cell (R18). -/
def modeUnsuitable : StepSource → Bool
  | .cell c m _ _ => if m = 0 then decide (3 < c) else outside 4 7 c
  | _ => false

/-- Kind 11 (R18). A disregarded window is not a reference (assumption 22). -/
def checkStep (p : Plan) (k : Nat) (r : StepRecord) : List Check :=
  let q := 11000 + k
  let sceneMissing := match r.scene with
    | some (sc, _) => sc != 0 && !slotHas p.heads sc
    | none => r.kind == 0
  let windowMissing := r.needsWindow && (match r.window with | some w => !slotHas p.windows w | none => true)
  let autoMissing := match r.auto with | some c => !slotHas p.conditions c | none => false
  let settleMissing := r.settle.isNone && (r.kind == 1 || r.kind == 2 || r.kind == 3)
  let autoUnsuitable := r.auto.isSome && (match r.kind, r.source with | 4, .prompt 2 _ _ _ => false | _, _ => true)
  [(24, decide (4 < r.kind) || (match r.scene with | some (sc, _) => decide (31 < sc) | none => false)
        || outside 1 15 r.count || decide (3 < r.retest) || outside 1 899 r.failCode
        || (match r.auto with | some c => decide (7 < c) | none => false) || sourceOutside r.source, q),
   (26, sceneMissing || windowMissing || autoMissing || settleMissing || p.sourceMissing r.source, q),
   (27, !r.sourceBelongs || modeUnsuitable r.source || autoUnsuitable, q)]

/-- Visit the records of one kind in ascending slot order (R19). -/
def visit {α : Type} (l : Slots α) (f : Nat → α → List Check) : Option (Nat × Nat) :=
  l.findSome? (fun e => firstFailing (f e.1 e.2))

/-- Whether a step of the plan names the scene (R15, R19). -/
def Plan.sceneNamed (p : Plan) (scene : Nat) : Bool :=
  p.steps.any (fun e => match e.2.scene with | some (sc, _) => sc == scene | none => false)

/-- Whether a scene is visited: written since PLAN BEGIN, or RETAINED and named by a step (R19). -/
def Plan.sceneVisited (p : Plan) (scene : Nat) : Bool := !p.retained scene || p.sceneNamed scene

/-- Whether a SCENE ITEM is visited: below the item count of a visited scene, or with no head (R19). -/
def Plan.itemVisited (p : Plan) (slot : Nat) : Bool :=
  match slotGet p.heads (slot / 16) with
  | none => true
  | some h => p.sceneVisited (slot / 16) && decide (slot % 16 < h.count)

/-- The plan-wide checks 20 to 23 (R19). -/
def Plan.wideChecks (p : Plan) (steps records : Nat) : List Check :=
  let firstEmpty := (List.range steps).find? (fun i => !slotHas p.steps i)
  let beyond := p.steps.find? (fun e => decide (steps ≤ e.1))
  [(20, records != p.written, 0), (21, outside 1 96 steps, 0),
   (22, firstEmpty.isSome, 11000 + firstEmpty.getD 0),
   (23, beyond.isSome, 11000 + (beyond.map (·.1)).getD 0)]

/-- The validation walk (R19): the code and qualifier of the first failing check, if any. -/
def Plan.validate (p : Plan) (steps records : Nat) : Option (Nat × Nat) :=
  (firstFailing (p.wideChecks steps records))
  <|> visit p.channelSetups checkChannelSetup
  <|> visit p.cellSetups checkCellSetup
  <|> visit p.conditions checkCondition
  <|> visit p.windows checkWindow
  <|> visit (p.heads.filter (fun e => p.sceneVisited e.1)) (checkSceneHead p)
  <|> visit (p.items.filter (fun e => p.itemVisited e.1)) (checkSceneItem p)
  <|> visit p.entries checkNetEntry
  <|> visit p.bindings (checkNetBinding p)
  <|> visit p.captures (checkCapture p)
  <|> visit p.pairs (checkContactPair p)
  <|> visit p.steps (checkStep p)

/-- The plan after its validation (R5): SEALED with its step count, every scene sealed with the
PERMANENT flag RETAINED, or INVALID. -/
def Plan.afterValidation (p : Plan) (steps : Nat) (failure : Option (Nat × Nat)) : Plan :=
  match failure with
  | some _ => { p with state := .invalid }
  | none =>
    { p with state := .sealed, stepCount := steps,
             heads := p.heads.map (fun e => (e.1, { e.2 with retained := e.2.retained || e.2.permanent })) }

end Sys2Proof.Machine
end

