-- ==== Sys2Proof/Machine/Flags.lean ====
section
/-! DEFINITION. Flag sources and conditions (R9, R79, R94 to R97). An event of a condition is the
pair of its number and whether it is RISE. -/

namespace Sys2Proof.Machine

/-- Whether any network entry has LATE set (R65). -/
def Net.anyLate (n : Net) : Bool := n.entries.toList.any (fun e => e.late)

/-- The value of a flag source (R9, R94). -/
def State.flagSource (s : State) (n : Nat) : Bool :=
  if n ≤ 3 then vecGet s.sense.flags n false
  else if n ≤ 7 then (vecGet s.sense.timing (n - 4) (.at false)).level
  else if n ≤ 11 then (vecGet s.sense.logic (n - 8) (.at false)).level
  else match n with
    | 12 => s.nest.partPresent.level
    | 13 => s.nest.clampClosed.level
    | 14 => s.nest.guardClosed.level
    | 15 => s.net.anyLate
    | _ => false

/-- The raw value of a condition: its truth table at input 0 + 2 × input 1 + 4 × input 2 (R9, R95). -/
def State.rawValue (s : State) (c : Condition) : Bool :=
  let index := flagBit (s.flagSource c.input0) 1 + flagBit (s.flagSource c.input1) 2
    + flagBit (s.flagSource c.input2) 4
  c.table / 2 ^ index % 2 == 1

/-- Whether a condition names a flag source (R94). -/
def Condition.names (c : Condition) (n : Nat) : Bool := c.input0 == n || c.input1 == n || c.input2 == n

/-- A condition whose raw value has been formed at tick `now` (R96): back to the qualified state stops
the timer; away from it starts a stopped timer, or, with a qualify time of 0, changes the qualified
state at once. The Bool says that an event is raised. -/
def ConditionState.update (x : ConditionState) (raw : Bool) (qualify now : Nat) : ConditionState × Bool :=
  if raw = x.qualified then ({ x with timer := none }, false)
  else if qualify = 0 then (⟨raw, none⟩, true)
  else match x.timer with
    | some _ => (x, false)
    | none => ({ x with timer := some (now + qualify * Config.ticksPerMs) }, false)

/-- Evaluate the conditions of `l` that name source `n`, in slot order (R94 to R96); the events raised
are appended to `evs`. -/
def State.evaluateList (n : Nat) : Slots Condition → State → List (Nat × Bool) → State × List (Nat × Bool)
  | [], s, evs => (s, evs)
  | (k, c) :: l, s, evs =>
    if c.names n then
      let u := (vecGet s.sense.conditions k ⟨false, none⟩).update (s.rawValue c) c.qualify s.now
      State.evaluateList n l
        (s.modSense (fun x => { x with conditions := vecMod x.conditions k (fun _ => u.1) }))
        (if u.2 then evs ++ [(k, u.1.qualified)] else evs)
    else State.evaluateList n l s evs

/-- A flag source has changed: every condition of a SEALED plan that names it is evaluated again
(R94, R95). The events raised are the second component. -/
def State.sourceChanged (s : State) (n : Nat) : State × List (Nat × Bool) :=
  if s.plan.state = .sealed then State.evaluateList n s.plan.conditions s [] else (s, [])

/-- The flag of an analogue cell after a background reading (R79). -/
def analogueFlag (old : Bool) (r : Reading) (u : CellSetup) : Bool :=
  match r with
  | .value v _ _ _ =>
    if old then !decide (v ≤ (u.threshold : Int) - u.hysteresis) else decide ((u.threshold : Int) < v)
  | .noSignal => old

/-- At a successful seal every condition takes its raw value, its timer stopped, no event raised (R97). -/
def State.initConditions (s : State) : State :=
  let table := s.plan.conditions.foldl
    (fun v e => vecMod v e.1 (fun _ => ConditionState.mk (s.rawValue e.2) none))
    (Vector.replicate 8 ⟨false, none⟩)
  s.modSense (fun x => { x with conditions := table })

/-- At the event that ends a sealed plan every qualified state becomes FALSE and every timer stops (R97). -/
def State.clearConditions (s : State) : State :=
  s.modSense (fun x => { x with conditions := Vector.replicate 8 ⟨false, none⟩ })

end Sys2Proof.Machine
end

