-- ==== Sys2Proof/Machine/Sense.lean ====
section
/-! DEFINITION. Acquisitions and the reading computation (R78, R82 to R92), and the classification of
a reading against a window (R106). -/

namespace Sys2Proof.Machine

/-! ## The reading computation (R90 to R92) -/

/-- A LEVEL reading from the sum of `n` samples (R91). -/
def levelReading (fullScale sum n : Nat) (saturated : Bool) : Reading :=
  .value (roundHalfUp (sum * fullScale) (4095 * n)) (inexactDiv (sum * fullScale) (4095 * n)) saturated false

/-- A FREQ reading from P periods in C ticks (R90). -/
def freqReading (periods ticks : Nat) : Reading :=
  let f := roundHalfUp (periods * 16000000000) ticks
  .value (min 250000000 f) (inexactDiv (periods * 16000000000) ticks) (decide (250000000 < f)) false

/-- A DUTY reading from H high ticks in C ticks (R92). -/
def dutyReading (high ticks : Nat) : Reading :=
  .value (roundHalfUp (high * 10000) ticks) (inexactDiv (high * 10000) ticks) false false

/-- An exact reading with no mark (R93). -/
def exactReading (v : Int) : Reading := .value v false false false

/-- The background reading of an analogue cell from its 16 most recent samples (R78). -/
def backgroundReading (cell : Nat) (u : CellSetup) (samples : List Nat) : Reading :=
  levelReading (cellFullScale cell u) samples.sum 16 (samples.any (· == 4095))

/-! ## Classification (R106) -/

/-- The class of a reading against a window (R106). -/
def classify (w : Window) : Reading → ReadingClass
  | .noSignal => .noSignal
  | .value v inexact saturated _ =>
    if w.low ≤ v ∧ v ≤ w.high then
      if saturated = true ∨ ((v = w.low ∨ v = w.high) ∧ inexact = true) then .marginal else .pass
    else if w.low - w.guardBand ≤ v ∧ v ≤ w.high + w.guardBand then .marginal
    else .fail

/-! ## The acquisition slot (R82) -/

/-- Whether an edge is qualifying under an edge selection: 0 RISING, 1 FALLING, 2 BOTH (R80). -/
def qualifying (edge : Nat) (rising : Bool) : Bool :=
  match edge with
  | 0 => rising
  | 1 => !rising
  | _ => true

/-- The qualifying edges of tick `now`. -/
def TickEdges.at (e : TickEdges) (now : Nat) : Nat := if e.tick = now then e.count else 0

/-- One more edge at tick `now`, under the edge selection in force at it (R77, R80). -/
def TickEdges.push (e : TickEdges) (now edge : Nat) (rising : Bool) : TickEdges :=
  ⟨now, e.at now + (if qualifying edge rising then 1 else 0)⟩

/-- The qualifying edges that the cell of a COUNT has had at the present tick: R87 counts by tick, the arming tick
included; each was judged by the selection in force when it came (R77). -/
def State.edgesNow (s : State) : AcqSource → Nat
  | .count c => (vecGet s.sense.edges (c - 4) .none).at s.now
  | _ => 0

/-- An acquisition as an arming request fills the slot with it: accumulators at zero (R82), the edges of the arming
tick beside them (R87). -/
def State.acquisition (s : State) (forNest : Bool) (src : AcqSource) (gate n : Nat) : Acquisition :=
  { forNest := forNest, source := src, gate := gate, samples := n, armMs := s.ms, armTick := s.now,
    phase := match src with
      | .level c => if c ≤ 1 then .awaitingReading else .sampling
      | .freq _ => .awaitingOpen
      | .duty _ => .awaitingOpen
      | .count _ => .counting
      | .elapsed .. => .awaitingEvent,
    sum := 0, taken := 0, saturated := false, openTick := 0, openRise := false, periods := 0,
    high := 0, edges := 0, moved := false, lastEdge := 0, before := s.edgesNow src }

/-- An arming request: it replaces what the slot holds (R82). -/
def State.arm (s : State) (forNest : Bool) (src : AcqSource) (gate n : Nat) : State :=
  s.modSense (fun x => { x with slot := some (s.acquisition forNest src gate n) })

/-- Empty the slot: an abandon request, or a completion (R82). -/
def State.emptySlot (s : State) : State := s.modSense (fun x => { x with slot := none })

/-- The source of a CELL step by its mode code: 0 LEVEL, 1 FREQ, 2 DUTY, 3 COUNT (R195). -/
def cellSource (cell mode : Nat) : AcqSource :=
  match mode with
  | 0 => .level cell
  | 1 => .freq cell
  | 2 => .duty cell
  | _ => .count cell

/-! ## Samples (R78, R83) -/

/-- One converter sample of a cell enters its 16 most recent (R78). -/
def pushSample (l : List Nat) (x : Nat) : List Nat := (l ++ [x]).drop (l.length + 1 - 16)

/-- A sample of cell `c` enters a LEVEL acquisition on it, up to the Nth (R83). -/
def Acquisition.sample (a : Acquisition) (c x : Nat) : Acquisition :=
  if a.source = .level c ∧ a.phase = .sampling ∧ a.taken < a.samples then
    { a with sum := a.sum + x, taken := a.taken + 1, saturated := a.saturated || x == 4095 }
  else a

/-- The samples of the four analogue cells at one sampling instant (R78), and `y2` and `y3`, which an acquisition on
cell 2 or 3 takes as its own and which the background readings do not use (R83, assumption 46). -/
def State.sampleAll (s : State) (x0 x1 x2 x3 y2 y3 : Nat) : State :=
  s.modSense (fun x =>
    { x with samples := #v[pushSample (vecGet x.samples 0 []) x0, pushSample (vecGet x.samples 1 []) x1,
                           pushSample (vecGet x.samples 2 []) x2, pushSample (vecGet x.samples 3 []) x3],
             slot := x.slot.map (fun a => (a.sample 2 y2).sample 3 y3) })

/-- The reading of a LEVEL acquisition on cell 2 or 3 whose Nth sample has been taken (R83, R91). -/
def State.levelComplete (s : State) : Option (Acquisition × Reading) :=
  match s.sense.slot with
  | some a =>
    match a.source, a.phase with
    | .level c, .sampling =>
      if a.samples ≤ a.taken then
        some (a, levelReading (cellFullScale c (s.plan.cellSetup c)) a.sum a.samples a.saturated)
      else none
    | _, _ => none
  | none => none

/-! ## Edges and gates (R80, R85 to R87) -/

/-- The timing cell an acquisition measures on, if it does. -/
def Acquisition.timingCell (a : Acquisition) : Option Nat :=
  match a.source with
  | .freq c => some c
  | .duty c => some c
  | .count c => some c
  | _ => none

/-- The reading of a gate that closes at `now` (R85, R90, R92). -/
def Acquisition.gateReading (a : Acquisition) (now : Nat) : Reading :=
  match a.source with
  | .duty _ => dutyReading a.high (now - a.openTick)
  | _ => freqReading a.periods (now - a.openTick)

/-- An edge at tick `now` on the acquisition's timing cell under an edge selection: the acquisition
afterwards, and the reading when it closes the gate (R85, R87). High ticks are summed from the
opening edge, over every edge of either direction. -/
def Acquisition.edge (a : Acquisition) (edge : Nat) (rising : Bool) (now : Nat) : Acquisition × Option Reading :=
  let a := { a with moved := true }
  match a.phase with
  | .counting =>
    (if qualifying edge rising && decide (now < a.armTick + a.gate * Config.ticksPerMs) then
       { a with edges := a.edges + 1 } else a, none)
  | .awaitingOpen =>
    (if qualifying edge rising then
       { a with phase := .gateOpen, openTick := now, openRise := rising, lastEdge := now } else a, none)
  | .gateOpen =>
    let b := { a with high := if rising then a.high else a.high + (now - a.lastEdge), lastEdge := now }
    if qualifying edge rising && (edge != 2 || rising == a.openRise) then
      let c := { b with periods := b.periods + 1 }
      (c, if a.openTick + a.gate * Config.ticksPerMs ≤ now then some (c.gateReading now) else none)
    else (b, none)
  | _ => (a, none)

/-- The tick at which an open or unopened gate times out (R86). -/
def Acquisition.timeoutTick (a : Acquisition) : Option Nat :=
  match a.phase with
  | .awaitingOpen => some (a.armTick + (a.gate + Config.gateSlackMs) * Config.ticksPerMs)
  | .gateOpen => some (a.openTick + (a.gate + Config.gateSlackMs) * Config.ticksPerMs)
  | _ => none

/-- The reading of a timed-out gate; `level` is the deglitched level of its cell (R86). -/
def Acquisition.timeoutReading (a : Acquisition) (level : Bool) : Reading :=
  match a.source, a.phase with
  | .duty _, .awaitingOpen => if a.moved then .noSignal else .value (if level then 10000 else 0) false false true
  | _, _ => .noSignal

/-- The reading of a COUNT: the qualifying edges of its interval, those of the arming tick that came before the arming
event among them (R87). -/
def Acquisition.countReading (a : Acquisition) : Reading := exactReading ((a.before + a.edges : Nat) : Int)

/-- The tick at which a COUNT interval ends (R87). -/
def Acquisition.countEnd (a : Acquisition) : Option Nat :=
  match a.phase with
  | .counting => some (a.armTick + a.gate * Config.ticksPerMs)
  | _ => none

/-- The deglitch ticks of a timing cell's setup, given in µs (R80). -/
def timingTicks (u : CellSetup) : Nat := u.deglitch * 16

/-- The deglitch ticks of a logic cell's setup, given in ms (R81). -/
def logicTicks (u : CellSetup) : Nat := u.deglitch * Config.ticksPerMs

end Sys2Proof.Machine
end

