-- ==== Sys2Proof/Machine/Net.lean ====
section
/-! DEFINITION. The Network Schedule Unit and the Capture Table (R61 to R76). -/

namespace Sys2Proof.Machine

/-! ## Enabling, disabling, due times (R62 to R65) -/

/-- ENABLE (R62): a disabled entry starts with its first instance due now; an enabled one keeps its
rhythm and takes the item's flags and override. -/
def NetRun.enable (now : Ms) (period : Nat) (freeze bad : Bool) (forced : Option (Nat × Nat)) (e : NetRun) : NetRun :=
  if e.enabled then { e with freeze := freeze, badChecksum := bad, override := forced }
  else { e with enabled := true, alive := 0, freeze := freeze, badChecksum := bad, override := forced,
                pend := some now, due := some (now + BitVec.ofNat 32 period) }

/-- DISABLE, or disabling by REPLACE or SAFE (R62): the alive counter and LATE are kept. -/
def NetRun.disable (e : NetRun) : NetRun :=
  { e with enabled := false, due := none, pend := none, freeze := false, badChecksum := false, override := none }

/-- The examination of one entry at millisecond `now` (R63), a waiting instance merging (R64). -/
def NetRun.examine (now : Ms) (period : Nat) (e : NetRun) : NetRun :=
  if e.enabled && e.due == some now then
    match e.pend with
    | none => { e with due := some (now + BitVec.ofNat 32 period), pend := some now }
    | some _ => { e with due := some (now + BitVec.ofNat 32 period), late := true }
  else e

/-- The period of an entry's record. -/
def Plan.entryPeriod (p : Plan) (k : Nat) : Nat := ((slotGet p.entries k).map (·.period)).getD 0

/-- A network item of a scene: action 0 ENABLE, 1 DISABLE (R62). -/
def State.networkItem (s : State) (entry action : Nat) (freeze bad : Bool) (forced : Option (Nat × Nat)) : State :=
  s.modNet (fun n =>
    { n with entries := vecMod n.entries entry (fun e =>
        if action = 0 then e.enable s.ms (s.plan.entryPeriod entry) freeze bad forced else e.disable) })

/-- Disable every entry (R56). -/
def State.disableAll (s : State) : State := s.modNet (fun n => { n with entries := vecMap NetRun.disable n.entries })

/-- Disable the entries that satisfy `p` (R51). -/
def State.disableWhere (s : State) (p : Nat → Bool) : State :=
  s.modNet (fun n =>
    { n with entries := (List.range 24).foldl (fun v k => if p k then vecMod v k NetRun.disable else v) n.entries })

/-- Every entry examined at the current millisecond (R63). -/
def State.examineAll (s : State) : State :=
  let examined := (List.range 24).foldl
    (fun v k => vecMod v k (NetRun.examine s.ms (s.plan.entryPeriod k))) s.net.entries
  s.modNet (fun n => { n with entries := examined })

/-- Clear every LATE flag (R65). -/
def State.clearLate (s : State) : State :=
  s.modNet (fun n => { n with entries := vecMap (fun e => { e with late := false }) n.entries })

/-- Clear OVERRANGE (R69). -/
def State.clearOverrange (s : State) : State := s.modNet (fun n => { n with overrange := false })

/-- The warm reset of the unit, after the SAFE application has disabled every entry (R61). -/
def State.netWarmReset (s : State) : State :=
  (s.modNet (fun n => { n with entries := vecMap (fun e => { e with alive := 0 }) n.entries })).clearLate.clearOverrange

/-! ## Building a frame (R68 to R72) -/

/-- Nibble `i` of a payload: the low half of byte i / 2 for an even i, its high half for an odd one (R70). -/
def nibbleAt (p : List Byte) (i : Nat) : Nat :=
  if i % 2 = 0 then byteAt p (i / 2) % 16 else byteAt p (i / 2) / 16

/-- Write nibble `i`, the other half of its byte kept (R70). -/
def putNibble (p : List Byte) (i v : Nat) : List Byte :=
  p.modify (i / 2) (fun b =>
    if i % 2 = 0 then toByte (b.toNat / 16 * 16 + v % 16) else toByte (v % 16 * 16 + b.toNat % 16))

/-- Write a value of `n` nibbles from nibble `start` upward, modulo 16 (R70). -/
def putField (p : List Byte) (start : Nat) : Nat → Nat → Nat → List Byte
  | _, 0, _ => p
  | i, n + 1, v => putField (putNibble p ((start + i) % 16) (v % 16)) start (i + 1) n (v / 16)

/-- The field value of a binding before it is brought into range (R69). -/
def NetBinding.value (b : NetBinding) (setpoint : Nat) : Int :=
  (setpoint * b.multiplier / b.divisor : Nat) + b.offset

/-- The field value written, and whether it was brought into 0..16^n − 1 (R69). -/
def NetBinding.field (b : NetBinding) (setpoint : Nat) : Nat × Bool :=
  let x := b.value setpoint
  if x < 0 then (0, true)
  else if (16 ^ b.length : Nat) ≤ x then (16 ^ b.length - 1, true)
  else (x.toNat, false)

/-- Apply the bindings of entry `k` in ascending index (R68 to R70); the flag says that one clamped. -/
def applyBindings (k : Nat) (setpoint : Nat → Nat) : Slots NetBinding → List Byte × Bool → List Byte × Bool
  | [], acc => acc
  | (_, b) :: l, acc =>
    if b.entry = k then
      let f := b.field (setpoint b.channel)
      applyBindings k setpoint l (putField acc.1 b.start 0 b.length f.1, acc.2 || f.2)
    else applyBindings k setpoint l acc

/-- The checksum over a payload, its byte `c` left out (R72). -/
def checksumOf (identifier c : Nat) (p : List Byte) : Nat :=
  255 - ((p.map (·.toNat)).sum - byteAt p c + identifier % 256 + identifier / 256) % 256

/-- Stages 1 and 2: the fixed payload and the byte override (R68). -/
def NetEntry.base (r : NetEntry) (e : NetRun) : List Byte :=
  match e.override with
  | some (pos, v) => (r.payload.take r.length).set pos (toByte v)
  | none => r.payload.take r.length

/-- Stages 4 and 5: the alive nibble, then the checksum byte (R71, R72). -/
def NetEntry.seal (r : NetEntry) (e : NetRun) (p : List Byte) : List Byte :=
  let q := match r.alive with
    | some n => putNibble p n e.alive
    | none => p
  match r.checksum with
  | some n =>
    let c := checksumOf r.identifier (n / 2) q
    q.set (n / 2) (toByte (if e.badChecksum then c + 1 else c))
  | none => q

/-- The payload of a frame of entry `k`, and whether a binding clamped (R68). -/
def buildPayload (p : Plan) (setpoint : Nat → Nat) (k : Nat) (r : NetEntry) (e : NetRun) : List Byte × Bool :=
  let b := applyBindings k setpoint p.bindings (r.base e, false)
  (r.seal e b.1, b.2)

/-- The runtime after a hand-off: no longer PENDING, and the alive counter of an entry with an alive
field advanced unless FREEZE-ALIVE (R66, R71). -/
def NetRun.handedOff (hasAlive : Bool) (e : NetRun) : NetRun :=
  { e with pend := none, alive := if hasAlive && !e.freeze then (e.alive + 1) % 16 else e.alive }

/-! ## The frame port (R66, R67) -/

/-- The best PENDING entry of a list from index `i`: the greatest age, the lowest index among equals (R66). -/
def pickFrom (now : Ms) : List NetRun → Nat → Option (Nat × Nat) → Option (Nat × Nat)
  | [], _, best => best
  | e :: l, i, best =>
    match e.enabled, e.pend with
    | true, some p =>
      let age := (now - p).toNat
      pickFrom now l (i + 1)
        (match best with
         | some (j, a) => if a < age then some (i, age) else some (j, a)
         | none => some (i, age))
    | _, _ => pickFrom now l (i + 1) best

/-- The entry the arbiter picks (R66). -/
def Net.pick (n : Net) (now : Ms) : Option Nat := (pickFrom now n.entries.toList 0 none).map (·.1)

/-- The record of an entry; one of length 0 stands for a slot with none, which no seal leaves enabled (R14). -/
def Plan.netEntry (p : Plan) (k : Nat) : NetEntry := (slotGet p.entries k).getD ⟨0, 0, 0, [], none, none⟩

/-- The setpoint of a channel (R69). -/
def State.setpoint (s : State) (c : Nat) : Nat := (vecGet s.stim.channels c Channel.reset).setpoint

/-- Hand entry `k` off to the port (R66, R68). -/
def State.handOff (s : State) (k : Nat) : State :=
  let r := s.plan.netEntry k
  let e := vecGet s.net.entries k NetRun.reset
  let b := buildPayload s.plan s.setpoint k r e
  s.modNet (fun n =>
    { entries := vecMod n.entries k (NetRun.handedOff r.alive.isSome),
      port := .busy k, overrange := n.overrange || b.2, request := some (.frame r.identifier b.1) })

/-- The arbiter: with the port FREE it hands off the picked entry (R66). -/
def State.arbiter (s : State) : State :=
  match s.net.port, s.net.pick s.ms with
  | .free, some k => s.handOff k
  | _, _ => s

/-- A sent completion frees a BUSY port (R67). -/
def State.sentComplete (s : State) : State := (s.modNet (fun n => { n with port := .free })).arbiter

/-! ## The Capture Table (R73 to R76) -/

/-- Whether a field lies within a frame of `len` bytes (R76). -/
def fieldWithin (len start n : Nat) : Bool := len == 8 || decide (start + n ≤ 2 * len)

/-- The unsigned value of a field of `n` nibbles from `start` (R76). -/
def fieldValue (p : List Byte) (start : Nat) : Nat → Nat
  | 0 => 0
  | n + 1 => nibbleAt p (start % 16) + 16 * fieldValue p (start + 1) n

/-- The reading of an armed field in an arrived payload (R76). -/
def CaptureArm.read (a : CaptureArm) (p : List Byte) : Reading :=
  if fieldWithin p.length a.start a.length then
    let v := fieldValue p a.start a.length
    exactReading (if a.signed && decide (16 ^ a.length ≤ 2 * v) then (v : Int) - (16 ^ a.length : Nat) else v)
  else .noSignal

/-- The capture whose record names an identifier (R74). -/
def Plan.captureOf (p : Plan) (identifier : Nat) : Option Nat :=
  (p.captures.find? (fun e => e.2.identifier == identifier)).map (·.1)

/-- A receive handoff (R74), with the reading that the arrival ends a waiting acquisition with (R76). -/
def State.captureArrive (s : State) (identifier : Nat) (payload : List Byte) : State × Option Reading :=
  match (if s.plan.state = .sealed then s.plan.captureOf identifier else none) with
  | none => (s, none)
  | some k =>
    let s' := s.modCapture (fun c => { c with entries := vecMod c.entries k (fun _ => ⟨payload, some s.ms⟩) })
    match s.capture.arm with
    | some a =>
      if a.capture = k then (s'.modCapture (fun c => { c with arm := none }), some (a.read payload)) else (s', none)
    | none => (s', none)

/-- The tick at which an armed acquisition has waited 3 × its capture's expected period (R75). -/
def State.captureTimeout (s : State) : Option Nat :=
  s.capture.arm.map (fun a =>
    a.armedAt + 3 * ((slotGet s.plan.captures a.capture).map (·.period)).getD 0 * Config.ticksPerMs)

/-- The arm becomes none (R75). -/
def State.disarm (s : State) : State := s.modCapture (fun c => { c with arm := none })

/-- The Capture Table armed; an arm that exists is replaced (R75). -/
def State.armCapture (s : State) (capture start length : Nat) (signed : Bool) : State :=
  s.modCapture (fun c => { c with arm := some ⟨capture, s.now, start, length, signed⟩ })

end Sys2Proof.Machine
end

