-- ==== Sys2Proof/Machine/View.lean ====
section
/-! DEFINITION. The Rack View: how it applies each view frame (R143 to R152, R175 to R181). Every
definition here is a function of the view alone. -/

namespace Sys2Proof.Machine

/-! ## Exclusive resources (R145, R147, R150, R152) -/

/-- Station `st` is holder or on the waiting list. -/
def exclusiveHas (x : Exclusive) (st : Nat) : Bool := x.holder == some st || x.waiting.contains st

/-- CLAIM from `st` (R145): no effect for the holder or a waiter; granted while CLOSED with no holder
and an empty list; appended otherwise. -/
def exclusiveClaim (isOpen : Bool) (x : Exclusive) (st : Nat) : Exclusive :=
  if exclusiveHas x st then x
  else if !isOpen && x.holder.isNone && x.waiting.isEmpty then { x with holder := some st }
  else { x with waiting := x.waiting ++ [st] }

/-- The head of the list becomes holder, and the holder none when the list is empty (R147). -/
def exclusiveNext (x : Exclusive) : Exclusive := ⟨x.waiting.head?, x.waiting.tail⟩

/-- RELEASE from `st` (R147). -/
def exclusiveRelease (isOpen : Bool) (x : Exclusive) (st : Nat) : Exclusive :=
  if x.holder = some st then
    if isOpen then { x with holder := none } else exclusiveNext x
  else { x with waiting := x.waiting.erase st }

/-- HOLDING from `st` while OPEN (R150): restores the holding where there is no holder. -/
def exclusiveHolding (x : Exclusive) (st : Nat) : Exclusive :=
  if x.holder.isNone then ⟨some st, x.waiting.erase st⟩ else x

/-- FORCE RELEASE of `st` (R148): it ceases to hold and to wait; while CLOSED a resource left without
a holder passes to the head of its list. -/
def exclusiveForce (isOpen : Bool) (x : Exclusive) (st : Nat) : Exclusive :=
  if x.holder = some st then
    if isOpen then ⟨none, x.waiting.erase st⟩ else exclusiveNext ⟨none, x.waiting.erase st⟩
  else { x with waiting := x.waiting.erase st }

/-- At the close of the window a resource with no holder goes to the head of its list (R152). -/
def exclusiveClose (x : Exclusive) : Exclusive := if x.holder.isNone then exclusiveNext x else x

/-! ## Budget (R143, R146, R147) -/

/-- The held budget of station `st` (R143). -/
def View.heldBy (v : View) (st : Nat) : Nat := v.held.getD (st - 1) 0

/-- Free budget: the total minus the sum of held budget (R143). -/
def View.free (v : View) : Nat := v.total - v.held.sum

/-- Set the held budget of station `st`. -/
def View.setHeld (v : View) (st a : Nat) : View := { v with held := v.held.set (st - 1) a }

/-- The waiting entry of station `st` (R143). -/
def View.entryOf (v : View) (st : Nat) : Option Nat := v.budgetList.lookup st

/-- Remove the waiting entry of station `st`. -/
def View.dropEntry (v : View) (st : Nat) : View :=
  { v with budgetList := v.budgetList.filter (fun e => e.1 != st) }

/-- Serve a budget list: grant the head while it fits, stop at the first that does not (R146). -/
def View.serveList (v : View) : List (Nat × Nat) → View
  | [] => { v with budgetList := [] }
  | (st, a) :: rest =>
    if a ≤ v.free then (v.setHeld st (v.heldBy st + a)).serveList rest
    else { v with budgetList := (st, a) :: rest }

/-- Serve the view's budget list (R146). -/
def View.serve (v : View) : View := v.serveList v.budgetList

/-- CLAIM(BUDGET, a) from `st` (R146). -/
def View.claimBudget (v : View) (st a : Nat) : View :=
  if (v.entryOf st).isSome || a == 0 || decide (v.total < v.heldBy st + a) then v
  else if v.window.isNone && v.budgetList.isEmpty && decide (a ≤ v.free) then
    v.setHeld st (v.heldBy st + a)
  else { v with budgetList := v.budgetList ++ [(st, a)] }

/-- RELEASE(BUDGET, a) from `st` (R147). -/
def View.releaseBudget (v : View) (st a : Nat) : View :=
  let v' := (v.setHeld st (v.heldBy st - a)).dropEntry st
  if v.window.isNone then v'.serve else v'

/-- HOLDING(BUDGET, a) from `st` while OPEN: the smaller of a and what the others leave (R150). -/
def View.holdBudget (v : View) (st a : Nat) : View :=
  v.setHeld st (min a (v.total - (v.held.sum - v.heldBy st)))

/-! ## View frames -/

/-- The highest amount a budget frame may carry (R144). -/
def maxBudgetAmount : Nat := 4000

/-- CLAIM with the resource code and amount of its frame (R144 to R146, R191). -/
def View.claim (v : View) (st res a : Nat) : View :=
  match res with
  | 0 => { v with panel := exclusiveClaim v.window.isSome v.panel st }
  | 1 => { v with gantry := exclusiveClaim v.window.isSome v.gantry st }
  | 2 => if a ≤ maxBudgetAmount then v.claimBudget st a else v
  | _ => v

/-- RELEASE (R144, R147, R191). -/
def View.release (v : View) (st res a : Nat) : View :=
  match res with
  | 0 => { v with panel := exclusiveRelease v.window.isSome v.panel st }
  | 1 => { v with gantry := exclusiveRelease v.window.isSome v.gantry st }
  | 2 => if a ≤ maxBudgetAmount then v.releaseBudget st a else v
  | _ => v

/-- HOLDING (R144, R150, R191): only while the window is OPEN. -/
def View.holding (v : View) (st res a : Nat) : View :=
  if v.window.isNone then v
  else
    match res with
    | 0 => { v with panel := exclusiveHolding v.panel st }
    | 1 => { v with gantry := exclusiveHolding v.gantry st }
    | 2 => if a ≤ maxBudgetAmount then v.holdBudget st a else v
    | _ => v

/-- The resource state cleared: no holder, empty lists, nothing held (R148, R149). -/
def View.cleared (v : View) : View :=
  { v with panel := ⟨none, []⟩, gantry := ⟨none, []⟩, budgetList := [], held := List.replicate 24 0 }

/-- ATTENTION from `st` (R149): the resource state is cleared and the window opens with that opener;
the view is ACTIVE afterwards (R144). -/
def View.attention (v : View) (st : Nat) : View := { v.cleared with window := some st, active := true }

/-- Whether a REBUILD END naming `opener` closes the window (R152). -/
def View.closes (v : View) (opener : Nat) : Bool := v.window == some opener

/-- REBUILD END naming `opener` (R152). -/
def View.rebuildEnd (v : View) (opener : Nat) : View :=
  if v.closes opener then
    View.serve { v with window := none, panel := exclusiveClose v.panel, gantry := exclusiveClose v.gantry }
  else v

/-- FORCE RELEASE naming `st` (R148); no effect outside 1..24. -/
def View.force (v : View) (st : Nat) : View :=
  if 1 ≤ st ∧ st ≤ 24 then
    let w := View.dropEntry
      (View.setHeld { v with panel := exclusiveForce v.window.isSome v.panel st,
                             gantry := exclusiveForce v.window.isSome v.gantry st } st 0) st
    if v.window.isNone then w.serve else w
  else v

/-- RACK HALT (R148, R179): HALTED is set and the resource state cleared; the window keeps its state. -/
def View.halt (v : View) : View := { v.cleared with halted := true }

/-- LINE RESUME (R181). -/
def View.resume (v : View) : View := { v with streak := 0, lineStopped := false, halted := false }

/-- VERDICT NOTICE with its verdict code and the streak limit (R177, R191). -/
def View.notice (v : View) (limit verdict : Nat) : View :=
  match verdict with
  | 1 => { v with streak := 0 }
  | 2 =>
    let n := min 255 (v.streak + 1)
    { v with streak := n, lineStopped := v.lineStopped || (limit != 0 && decide (limit ≤ n)) }
  | _ => v

end Sys2Proof.Machine
end

