-- ==== Sys2Proof/Machine/Stim.lean ====
section
/-! DEFINITION. The Stimulus Unit: what each kind of channel does with a value, period starts,
derived channels, ramps, scenes, SAFE and the contact test values (R42 to R58). A channel operation
answers the channel and whether a period of its output starts (R47, R48). -/

namespace Sys2Proof.Machine

/-! ## Level and switch channels (R44, R45) -/

/-- The full scale of channel 0 or of a LEVEL channel (R44): kind 1 is RESISTANCE. -/
def levelFullScale (c : Nat) (u : ChannelSetup) : Nat := if c = 0 ∨ u.levelKind = 0 then 16000 else 1000

/-- The output code of a setpoint (R44). -/
def outputCode (fullScale setpoint : Nat) : Nat := roundHalfUp (setpoint * 4095) fullScale

/-- The setpoint of a level channel and its code (R44). -/
def Channel.setLevel (ch : Channel) (fullScale v : Nat) : Channel :=
  { ch with setpoint := v, code := outputCode fullScale v }

/-- A value given to a level channel without a ramp (R44, R49). -/
def Channel.level (ch : Channel) (fullScale v : Nat) : Channel :=
  { ch.setLevel fullScale (min v fullScale) with ramp := none, clamped := ch.clamped || decide (fullScale < v) }

/-- An item value given to a SWITCH channel: 0 OFF, 1 ON, 2 ON-ONCE until `expiry` (R45). -/
def Channel.switch (ch : Channel) (v expiry : Nat) : Channel :=
  match v with
  | 0 => { ch with setpoint := 0, oneShot := none }
  | 1 => { ch with setpoint := 1, oneShot := none }
  | _ => { ch with setpoint := 1, oneShot := some expiry }

/-! ## Pulse channels with source OWN (R46, R47) -/

/-- A frequency brought into range: 0 stays 0 (R46). -/
def clampFreq (f : Nat) : Nat := if f = 0 then 0 else clampNat 10 100000000 f

/-- The period of a non-zero frequency (R46). -/
def periodOf (f : Nat) : Nat := roundHalfUp 16000000000 f

/-- The high time before its adjustment (R46). -/
def rawHigh (t d : Nat) : Nat := roundHalfUp (t * d) 10000

/-- The high time, at least 1 and at most T − 1 (R46). -/
def highOf (t d : Nat) : Nat := clampNat 1 (t - 1) (rawHigh t d)

/-- Whether the high time was adjusted (R46). -/
def highAdjusted (t d : Nat) : Bool := rawHigh t d != highOf t d

/-- The pair of a frequency and a duty: none for frequency 0 (R46). -/
def pairOf (f d : Nat) : Option (Nat × Nat) := if f = 0 then none else some (periodOf f, highOf (periodOf f) d)

/-- A new pair reaches the output by the channel's state and reload policy: 0 AT-BOUNDARY, 1
IMMEDIATE (R47). -/
def Channel.givePair (ch : Channel) (reload now : Nat) (pair : Option (Nat × Nat)) : Channel × Bool :=
  match ch.run, pair with
  | none, none => ({ ch with pend := .none }, false)
  | none, some (t, h) => ({ ch with run := some ⟨t, h, now, true⟩, pend := .none, active := true }, true)
  | some _, some (t, h) =>
    if reload = 0 then ({ ch with pend := .pair t h }, false)
    else ({ ch with run := some ⟨t, h, now, true⟩, pend := .none, active := true }, true)
  | some _, none =>
    if reload = 0 then ({ ch with pend := .stop }, false)
    else ({ ch with run := none, pend := .none, active := false }, false)

/-- A frequency in force and a duty given to a pulse channel; the setpoint is given apart, since a
ramp may stand at 1..9 mHz and run at 10 (R46, R49). -/
def Channel.pulse (ch : Channel) (reload now setpoint f d : Nat) : Channel × Bool :=
  { ch with setpoint := setpoint, freq := f, duty := d }.givePair reload now (pairOf f d)

/-- Whether giving frequency `f` at duty `d` clamps: the frequency, or the high time (R46, R60). -/
def pulseClamps (f d : Nat) : Bool :=
  clampFreq f != f || (f != 0 && highAdjusted (periodOf (clampFreq f)) d)

/-- A frequency given to a pulse channel without a ramp (R46, R49). -/
def Channel.frequency (ch : Channel) (reload now f d : Nat) : Channel × Bool :=
  { ch with ramp := none, clamped := ch.clamped || pulseClamps f d }.pulse reload now (clampFreq f) (clampFreq f) d

/-- The end of a period at tick `now`: the next period with the pending pair or the same one, or the
stop (R47). -/
def Channel.boundary (ch : Channel) (now : Nat) : Channel × Bool :=
  match ch.run with
  | none => (ch, false)
  | some r =>
    match ch.pend with
    | .none => ({ ch with run := some { r with start := now, inHigh := true }, active := true }, true)
    | .pair t h => ({ ch with run := some ⟨t, h, now, true⟩, pend := .none, active := true }, true)
    | .stop => ({ ch with run := none, pend := .none, active := false }, false)

/-! ## Derived channels (R48) -/

/-- RUN or STOP given to a derived channel; RUN while in RUN changes nothing but the setpoint
(assumption 14). -/
def Channel.derivedValue (ch : Channel) (v : Nat) : Channel :=
  if v = 0 then { ch with setpoint := 0, derRun := false, counted := false, position := 0, active := false }
  else { ch with setpoint := v, derRun := true }

/-- A derived channel with divisor `n` after a change of its source: whether the source runs, stands
at its active level, and starts a period (R48). -/
def Channel.followSource (ch : Channel) (n : Nat) (running active started : Bool) : Channel × Bool :=
  if ch.derRun && running then
    let pos := if started && ch.counted then (ch.position + 1) % n else ch.position
    let seen := ch.counted || started
    ({ ch with counted := seen, position := pos,
               active := seen && (if n = 1 then active else decide (pos < n / 2)) },
     started && pos == 0)
  else ({ ch with counted := false, position := 0, active := false }, false)

/-- The channels, the numbers of those that run and of those whose output starts a period at this event. -/
abbrev PulseSweep := Vector Channel 16 × List Nat × List Nat

/-- Channel `c` of `v`. -/
def chan (v : Vector Channel 16) (c : Nat) : Channel := vecGet v c Channel.reset

/-- One pulse channel of the sweep: a derived one follows its source, which has a lower number (R48). A derived source in
RUN runs only while its own source does (assumption 63). -/
def followOne (setup : Nat → ChannelSetup) (w : PulseSweep) (c : Nat) : PulseSweep :=
  let u := setup c
  if u.source = 1 then
    let k := u.derivedFrom
    let r := (chan w.1 c).followSource u.divisor (w.2.1.contains k) (chan w.1 k).active (w.2.2.contains k)
    (vecMod w.1 c (fun _ => r.1),
     if (chan w.1 c).derRun && w.2.1.contains k then w.2.1 ++ [c] else w.2.1,
     if r.2 then w.2.2 ++ [c] else w.2.2)
  else (w.1, if (chan w.1 c).run.isSome then w.2.1 ++ [c] else w.2.1, w.2.2)

/-- Every derived channel follows its source; `started` lists the channels that start a period (R48). -/
def follow (setup : Nat → ChannelSetup) (started : List Nat) (v : Vector Channel 16) : Vector Channel 16 :=
  ([1, 2, 3, 4].foldl (followOne setup) (v, [], started)).1

/-- Replace a channel by the result of an operation, and let the derived channels follow. -/
def putChannel (setup : Nat → ChannelSetup) (c : Nat) (r : Channel × Bool) (v : Vector Channel 16) : Vector Channel 16 :=
  follow setup (if r.2 then [c] else []) (vecMod v c (fun _ => r.1))

/-! ## Output levels (R7, R45, R48) -/

/-- Whether a PULSE or SWITCH output stands at its active level: a pulse in its high time or a derived one
in its active share, a switch that is ON (R45, R46, R48). -/
def Channel.atActive (ch : Channel) (c : Nat) : Bool := if isSwitch c then ch.setpoint != 0 else ch.active

/-- The output of channel `c`: the code of channel 0 and of a LEVEL channel (R44); for a PULSE or SWITCH
channel 1 at the high level and 0 at the low one. The active level is high under polarity NORMAL and low
under INVERTED (R7, R45, R48; which level of a switch is the active one, assumption 41). -/
def Channel.output (ch : Channel) (c : Nat) (u : ChannelSetup) : Nat :=
  if isPulse c || isSwitch c then (if ch.atActive c != (u.polarity == 1) then 1 else 0) else ch.code

/-! ## Ramps (R49) -/

/-- The update count of a ramp span (R49). -/
def rampCount (span : Nat) : Nat := max 1 ((span + 9) / 10)

/-- The setpoint of a ramp after `k` updates (R49). -/
def Ramp.setpoint (r : Ramp) (k : Nat) : Nat :=
  ((r.v0 : Int) + Int.tdiv (((r.v1 : Int) - r.v0) * k) r.total).toNat

/-- The tick of a ramp's next update (R49). -/
def Ramp.nextUpdate (r : Ramp) : Nat := r.start + (r.made + 1) * Config.rampTicks

/-- Start a ramp to a target already clamped (R49). -/
def Channel.startRamp (ch : Channel) (now target span : Nat) (clamps : Bool) : Channel :=
  { ch with ramp := some ⟨ch.setpoint, target, rampCount span, 0, now⟩, clamped := ch.clamped || clamps }

/-- The channel after a ramp update: the setpoint, and the ramp with one more update made or none (R49). The pair of an
update is a new one also where it equals the pair in force (assumption 13). -/
def Channel.rampUpdate (ch : Channel) (c : Nat) (u : ChannelSetup) (now : Nat) : Channel × Bool :=
  match ch.ramp with
  | none => (ch, false)
  | some r =>
    let sp := r.setpoint (r.made + 1)
    let last := decide (r.total ≤ r.made + 1)
    let ch' := { ch with ramp := if last then none else some { r with made := r.made + 1 } }
    if isPulse c then
      let f := if sp = 0 then 0 else max 10 sp
      { ch' with clamped := ch.clamped || (last && f != 0 && highAdjusted (periodOf f) ch.duty) }.pulse
        u.reload now sp f ch.duty
    else (ch'.setLevel (levelFullScale c u) sp, false)

/-! ## Items (R45 to R49) -/

/-- A channel item acts on its channel (R44 to R49). The current T of the duty that a ramp item gives at once is that
of the latest frequency given, so the pair it forms replaces a pending one in duty alone (R47, assumption 56). -/
def Channel.item (ch : Channel) (c : Nat) (u : ChannelSetup) (now value : Nat) (ramp : Option Nat)
    (duty oneShot : Nat) : Channel × Bool :=
  if isSwitch c then (ch.switch value (now + spanMs oneShot * Config.ticksPerMs), false)
  else if isPulse c then
    if u.source = 1 then (ch.derivedValue value, false)
    else match ramp with
      | none => ch.frequency u.reload now value duty
      | some span =>
        let ch' := ch.startRamp now (clampFreq value) (spanMs span)
          (clampFreq value != value || (ch.freq != 0 && highAdjusted (periodOf ch.freq) duty))
        if ch.freq = 0 then ({ ch' with duty := duty }, false)
        else ch'.pulse u.reload now ch.setpoint ch.freq duty
  else
    let fs := levelFullScale c u
    match ramp with
    | none => (ch.level fs value, false)
    | some span => (ch.startRamp now (min value fs) (spanMs span) (decide (fs < value)), false)

/-- The SAFE value of a channel as an item without a ramp gives it, under the channel's reload policy (R51);
a PULSE channel keeps its duty, for which the rule gives no value (assumption 5). -/
def Channel.unnamed (ch : Channel) (c : Nat) (u : ChannelSetup) (now : Nat) : Channel × Bool :=
  if isSwitch c then (ch.switch 0 0, false)
  else if isPulse c then
    if u.source = 1 then (ch.derivedValue 0, false) else ch.frequency u.reload now 0 ch.duty
  else (ch.level (levelFullScale c u) 0, false)

/-- A channel at SAFE (R56): as after a cold reset (R43, assumption 5), but for CLAMPED, which keeps its value. -/
def Channel.safe (ch : Channel) : Channel :=
  { ch with setpoint := 0, code := 0, freq := 0, duty := 5000, run := none, pend := .none, derRun := false,
            counted := false, position := 0, active := false, ramp := none, oneShot := none }

/-- Whether any ramp runs (R52). -/
def Stim.ramping (m : Stim) : Bool := m.channels.toList.any (fun ch => ch.ramp.isSome)

/-- Whether any CLAMPED flag is set (R60). -/
def Stim.anyClamped (m : Stim) : Bool := m.channels.toList.any (fun ch => ch.clamped)

/-- Clear every CLAMPED flag (R60). -/
def State.clearClamped (s : State) : State :=
  s.modStim (fun m => { m with channels := vecMap (fun ch => { ch with clamped := false }) m.channels })

/-- Apply a channel operation to channel `c`. -/
def State.onChannel (s : State) (c : Nat) (r : Channel × Bool) : State :=
  s.modStim (fun m => { m with channels := putChannel s.plan.channelSetup c r m.channels })

/-- Channel `c` of the station. -/
def State.channel (s : State) (c : Nat) : Channel := chan s.stim.channels c

/-- The level or code that the station drives on stimulus output `c` (R7, R44 to R48). -/
def State.output (s : State) (c : Nat) : Nat := (s.channel c).output c (s.plan.channelSetup c)

/-- The SAFE level of stimulus output `c` under the setup in force (R56). -/
def State.safeOutput (s : State) (c : Nat) : Nat := (s.channel c).safe.output c (s.plan.channelSetup c)

/-! ## Budget (R50, R154) -/

/-- The H of R154: what the own view shows held, and the recorded holding while the window is OPEN, as the
record stands at this event (R159; the H of R59 is State.overdrawH, assumption 42). -/
def State.budgetH (s : State) : Nat :=
  if s.view.window.isSome then s.claims.budget.record else s.view.heldBy s.rbi.address

/-- The budget want becomes `w` and its need ends; a want of 0 clears the grant-reported flag (R154, R157). -/
def State.settleBudget (s : State) (w : Nat) : State :=
  s.modClaims (fun c =>
    { c with budget := { c.budget with want := w, wait := none, fresh := false,
                                       reported := c.budget.reported && w != 0 } })

/-- The budget need of R50 handed over: W = D, a new want whose first CLAIM starts the wait timer (R154, R157). -/
def State.needBudget (s : State) (d : Nat) : State :=
  s.modClaims (fun c =>
    { c with budget := { c.budget with want := d, wait := none, fresh := true, reported := false } })

/-! ## SAFE (R56) -/

/-- The channels, network entries and capture arm at SAFE, the applied scene 0, the overdraw count 0 (R56,
R59, R75). -/
def State.safeOutputs (s : State) : State :=
  (s.modStim (fun m =>
    { m with channels := vecMap Channel.safe m.channels, applied := 0, test := none, overdraw := 0 })).disableAll.disarm

/-- Drop a held, DEFERRED or waiting request: its budget need falls to H (R56, R154). -/
def State.dropRequest (s : State) : State :=
  let s' := if s.stim.request.isSome then s.settleBudget s.budgetH else s
  s'.modStim (fun m => { m with app := .idle, request := none })

/-- A SAFE application (R56). -/
def State.applySafe (s : State) : State := s.safeOutputs.dropRequest

/-! ## Scenes (R50 to R55) -/

/-- Whether a channel item of a scene names channel `c` (R51). -/
def namesChannel (items : List SceneItem) (c : Nat) : Bool :=
  items.any (fun i => match i with | .channel c' .. => c' == c | _ => false)

/-- Whether a network item of a scene names entry `e` (R51). -/
def namesEntry (items : List SceneItem) (e : Nat) : Bool :=
  items.any (fun i => match i with | .network e' .. => e' == e | _ => false)

/-- One item of a scene acts (R51). -/
def State.applyItem (s : State) : SceneItem → State
  | .channel c v ramp duty oneShot =>
    s.onChannel c ((s.channel c).item c (s.plan.channelSetup c) s.now v ramp duty oneShot)
  | .network e action freeze bad forced => s.networkItem e action freeze bad forced
  | .other _ => s

/-- In REPLACE mode the channels and entries that no item names (R51). -/
def State.restUnnamed (s : State) (items : List SceneItem) : State :=
  let s' := (List.range 16).foldl
    (fun t c => if namesChannel items c then t
      else t.onChannel c ((t.channel c).unnamed c (t.plan.channelSetup c) t.now)) s
  s'.disableWhere (fun e => !namesEntry items e)

/-- The items of a scene applied in its mode; scene 0 applies SAFE (R51). -/
def State.applyItems (s : State) (scene : Nat) (replace : Bool) : State :=
  if scene = 0 then s.safeOutputs
  else
    let items := s.plan.itemsOf scene
    let t := if replace then s.restUnnamed items else s
    (items.foldl State.applyItem t).modStim (fun m => { m with applied := scene })

/-- Completion once no ramp runs (R52): W falls to the draw, a surplus is returned, and the report of
the scene applied is made. -/
def State.completeScene (s : State) : State × Option Phase :=
  if s.stim.app = .ramping ∧ ¬ s.stim.ramping then
    let d := s.plan.draw s.stim.applied
    let surplus := decide (d < s.budgetH)
    ((s.settleBudget d).modStim (fun m => { m with app := if surplus then .returningSurplus else .idle }),
     some .applied)
  else (s, none)

/-- The event that applies a scene (R51), W at the whole holding until the ramps have ended (R154),
the arbiter (R66), and completion where no ramp runs (R52). -/
def State.applyScene (s : State) (scene : Nat) (replace : Bool) : State × Option Phase :=
  (((s.settleBudget s.budgetH).applyItems scene replace).modStim
    (fun m => { m with app := .ramping, request := none })).arbiter.completeScene

/-- A request is evaluated (R50). -/
def State.evaluateScene (s : State) (scene : Nat) (replace : Bool) : State × Option Phase :=
  let d := s.plan.draw scene
  if s.view.total < d then (s, some (.ended (.error 911) none false))
  else if d ≤ s.budgetH then s.applyScene scene replace
  else ((s.needBudget d).modStim (fun m => { m with app := .awaitingBudget, request := some (scene, replace) }), none)

/-- A request is taken (R50, R54, R55); while the window is OPEN it is DEFERRED, in RETURNING SURPLUS too
(assumption 49). -/
def State.requestScene (s : State) (scene : Nat) (replace : Bool) : State × Option Phase :=
  if s.nest.state ≠ .testing then (s, none)
  else if s.view.window.isSome then
    (s.modStim (fun m => { m with app := .deferred, request := some (scene, replace) }), none)
  else if s.stim.app = .returningSurplus then
    (s.modStim (fun m => { m with request := some (scene, replace) }), none)
  else s.evaluateScene scene replace

/-- The held request evaluated (R54, R55). -/
def State.evaluateHeld (s : State) : State × Option Phase :=
  match s.stim.request with
  | some (scene, replace) => (s.modStim (fun m => { m with app := .idle, request := none })).evaluateScene scene replace
  | none => (s.modStim (fun m => { m with app := .idle }), none)

/-- The resource wait limit expires while the request awaits budget: the request is answered ERROR
914, W falls to H (R53, R154). -/
def State.budgetExpired (s : State) : State × Option Phase :=
  if s.stim.app = .awaitingBudget then
    ((s.settleBudget s.budgetH).modStim (fun m => { m with app := .idle, request := none }),
     some (.ended (.error 914) none false))
  else (s.settleBudget s.budgetH, none)

/-! ## Contact test values (R58) -/

/-- A test value given to a channel (R58): a pulse channel starts at once with duty 5,000. -/
def Channel.testValue (ch : Channel) (c : Nat) (u : ChannelSetup) (now v : Nat) : Channel × Bool :=
  if isPulse c && u.source != 1 then ch.frequency 1 now v 5000 else ch.item c u now v none 5000 0

/-- The contact drive (R58): dropped outside CONTACTING. -/
def State.driveTest (s : State) (c v : Nat) : State :=
  if s.nest.state = .contacting then
    (s.onChannel c ((s.channel c).testValue c (s.plan.channelSetup c) s.now v)).modStim
      (fun m => { m with test := some c })
  else s

/-- The return of the driven channel to SAFE (R58). -/
def State.returnTest (s : State) : State :=
  match s.stim.test with
  | some c => (s.onChannel c ((s.channel c).safe, false)).modStim (fun m => { m with test := none })
  | none => s

end Sys2Proof.Machine
end

