-- ==== Sys2Proof/Machine/Claim.lean ====
section
/-! DEFINITION. The Claim Unit: wants, the frames that close the gap between the wants and the own
view, restating, and the gantry exchange (R153 to R163). What its reports set off in other blocks
stands with those blocks. -/

namespace Sys2Proof.Machine

/-! ## Wants (R154, R157) -/

/-- The items of PANEL or GANTRY; BUDGET has its own (R153). -/
def Claims.of (c : Claims) : Resource → ExclusiveClaim
  | .panel => c.panel
  | .gantry => c.gantry
  | .budget => ExclusiveClaim.clear

/-- Update the items of PANEL or GANTRY. -/
def Claims.mod (c : Claims) (r : Resource) (f : ExclusiveClaim → ExclusiveClaim) : Claims :=
  match r with
  | .panel => { c with panel := f c.panel }
  | .gantry => { c with gantry := f c.gantry }
  | .budget => c

/-- The view's record of PANEL or GANTRY. -/
def View.exclusive (v : View) : Resource → Exclusive
  | .panel => v.panel
  | .gantry => v.gantry
  | .budget => ⟨none, []⟩

/-- The want of PANEL or GANTRY is set: a new want if it was clear (R154, R157). -/
def ExclusiveClaim.wanted (x : ExclusiveClaim) : ExclusiveClaim :=
  if x.want then x else { x with want := true, fresh := true, reported := false }

/-- The want of PANEL or GANTRY is cleared: its wait timer and grant-reported flag end with it (R154,
R157, assumption 19). -/
def ExclusiveClaim.ended (x : ExclusiveClaim) : ExclusiveClaim :=
  { x with want := false, fresh := false, reported := false, wait := none }

/-- The resource wait limit (R157, R186), as a tick from now. -/
def State.waitExpiry (s : State) : Nat :=
  s.after (spanMs ((s.join.params.map (·.resourceWait)).getD 0))

/-! ## What the own view shows -/

/-- The own view shows the station as holder of PANEL or GANTRY. -/
def State.holds (s : State) (r : Resource) : Bool := (s.view.exclusive r).holder == some s.rbi.address

/-- The own view shows the station holding or waiting for PANEL or GANTRY. -/
def State.shows (s : State) (r : Resource) : Bool := exclusiveHas (s.view.exclusive r) s.rbi.address

/-- The budget the own view shows the station holding: h of R155. -/
def State.heldNow (s : State) : Nat := s.view.heldBy s.rbi.address

/-- The station's budget waiting entry in the own view: e of R155. -/
def State.entryNow (s : State) : Option Nat := s.view.entryOf s.rbi.address

/-! ## The frame due while the window is CLOSED (R155) -/

/-- The frame due for PANEL or GANTRY (R155). -/
def State.dueExclusive (s : State) (r : Resource) : Option TxBody :=
  if (s.claims.of r).want then if s.shows r then none else some (.claim r 0)
  else if s.shows r then some (.release r 0) else none

/-- The RELEASE of what the station holds above W, or of its entry (R155). -/
def State.budgetRelease (s : State) : TxBody := .release .budget (s.heldNow - s.claims.budget.want)

/-- The frame due for BUDGET (R155). -/
def State.dueBudget (s : State) : Option TxBody :=
  let h := s.heldNow
  let w := s.claims.budget.want
  match s.entryNow with
  | some a => if w ≤ h ∨ h + a < w then some s.budgetRelease else none
  | none => if w < h then some s.budgetRelease else if h < w then some (.claim .budget (w - h)) else none

/-- The frame due for a resource while the window is CLOSED (R155). -/
def State.dueFrame (s : State) : Resource → Option TxBody
  | .budget => s.dueBudget
  | r => s.dueExclusive r

/-- Whether a queued frame is right while the window is CLOSED (R155; a HOLDING is not, assumption 31). -/
def State.rightFrame (s : State) (b : TxBody) : Bool :=
  match b with
  | .claim r _ => s.dueFrame r == some b
  | .release .budget x =>
    decide ((x : Int) ≤ (s.heldNow : Int) - s.claims.budget.want) || (x == 0 && s.entryNow.isSome)
  | .release r _ => !(s.claims.of r).want
  | _ => false

/-! ## The frame due while the window is OPEN (R158, R159) -/

/-- The frame due for PANEL or GANTRY in an OPEN window with nothing queued (R159); a wait that a FORCE RELEASE has
removed is claimed again at once (R160, assumption 50), and a rejected RELEASE of a resource wanted anew is not offered
again (assumption 53). -/
def State.openExclusive (s : State) (r : Resource) : Option TxBody :=
  let x := s.claims.of r
  if x.want then if x.record || s.shows r then none else some (.claim r 0)
  else if s.shows r then some (.release r 0) else none

/-- The frame due for BUDGET in an OPEN window with nothing queued (R158, R159, assumption 20);
`held` says that an undelivered HOLDING has just been withdrawn; only then is HOLDING(BUDGET, W) queued, and none after
a HOLDING that was rejected (assumption 58). -/
def State.openBudget (s : State) (held : Bool) : Option TxBody :=
  let b := s.claims.budget
  if b.want < s.heldNow ∨ (s.entryNow.isSome = true ∧ b.want ≤ b.record) then some s.budgetRelease
  else if held && b.record != 0 then some (.holding .budget b.record)
  else if b.record < b.want ∧ s.entryNow.isNone = true then some (.claim .budget (b.want - b.record))
  else none

/-- The frame due for a resource while the window is OPEN. -/
def State.openFrame (s : State) (held : Bool) : Resource → Option TxBody
  | .budget => s.openBudget held
  | r => s.openExclusive r

/-- Whether a queued frame stays while the window is OPEN (R159): a RELEASE of BUDGET only while its amount is
h − W, or 0 when h is not above W. -/
def State.openRight (s : State) (b : TxBody) : Bool :=
  match b with
  | .holding .budget a => a == s.claims.budget.record
  | .holding r _ => (s.claims.of r).want
  | .claim .budget a => decide (s.claims.budget.record + a = s.claims.budget.want) && a != 0
  | .claim r _ => (s.claims.of r).want
  | .release .budget x => x == s.heldNow - s.claims.budget.want
  | _ => true

/-- The record of a want that has fallen (R159). -/
def State.lowerRecords (s : State) : State :=
  s.modClaims (fun c =>
    { c with panel := { c.panel with record := c.panel.record && c.panel.want },
             gantry := { c.gantry with record := c.gantry.record && c.gantry.want },
             budget := { c.budget with record := min c.budget.record c.budget.want } })

/-! ## The check (R155, R159) -/

/-- Whether a frame is one of the Claim Unit's for a resource. -/
def isClaimFrame (r : Resource) (b : TxBody) : Bool := b.producer == .claimUnit r

/-- The retry timer of a resource (R153). -/
def Claims.retryOf (c : Claims) : Resource → Option Nat
  | .budget => c.budget.retry
  | r => (c.of r).retry

/-- Set or stop the retry timer of a resource (R156). -/
def Claims.setRetry (c : Claims) (r : Resource) (t : Option Nat) : Claims :=
  match r with
  | .budget => { c with budget := { c.budget with retry := t } }
  | r => c.mod r (fun x => { x with retry := t })

/-- Queue the frame that is due, if one is. -/
def State.sendDue (s : State) : Option TxBody → State
  | some b => s.send b
  | none => s

/-- Whether a HOLDING stands in a queue entry. -/
def isHolding (b : TxBody) : Bool := match b with | .holding .. => true | _ => false

/-- Whether the first CLAIM of the present want of a resource is still to be queued (R157). -/
def Claims.freshOf (c : Claims) : Resource → Bool
  | .budget => c.budget.fresh
  | r => (c.of r).fresh

/-- Whether the frame due goes out while the retry timer of its resource runs: in an OPEN window what a want that
ends or falls sets free, and the CLAIM of a new want, which R159 queues with no such condition. A CLAIM that was
rejected waits for the timer (R156), and while the window is CLOSED every frame does (R155). -/
def State.beforeRetry (s : State) : TxBody → Bool
  | .release .. => s.view.window.isSome
  | .claim r _ => s.view.window.isSome && s.claims.freshOf r
  | _ => false

/-- The check of one resource: a wrong frame that is not on the line is withdrawn and replaced; with nothing queued
the frame due is queued, unless it has to wait for the retry timer (R155, R159). -/
def State.checkResource (s : State) (r : Resource) : State :=
  let isOpen := s.view.window.isSome
  match claimEntry s.rbi.queue r with
  | some e =>
    if e.onLine || (if isOpen then s.openRight e.body else s.rightFrame e.body) then s
    else
      let t := s.withdraw (isClaimFrame r)
      t.sendDue (if isOpen then t.openFrame (isHolding e.body) r else t.dueFrame r)
  | none =>
    let due := if isOpen then s.openFrame false r else s.dueFrame r
    if (s.claims.retryOf r).isSome then s.sendDue (due.filter s.beforeRetry) else s.sendDue due

/-- Whether a claim of the resource stands: a CLAIM is queued, or, with nothing queued, the view shows
the station waiting (R157, assumption 18). -/
def State.claimStands (s : State) (r : Resource) : Bool :=
  match claimEntry s.rbi.queue r with
  | some e => (match e.body with | .claim .. => true | _ => false)
  | none =>
    match r with
    | .budget => s.entryNow.isSome
    | r => s.shows r && !s.holds r

/-- The wait timer of a new want starts when its first CLAIM is queued (R157). -/
def State.startWait (s : State) (r : Resource) : State :=
  if s.claimStands r then
    match r with
    | .budget =>
      if s.claims.budget.fresh then
        s.modClaims (fun c => { c with budget := { c.budget with fresh := false, wait := some s.waitExpiry } })
      else s
    | r =>
      if (s.claims.of r).fresh then
        s.modClaims (fun c => c.mod r (fun x => { x with fresh := false, wait := some s.waitExpiry }))
      else s
  else s

/-- The check of every resource, in the order PANEL, GANTRY, BUDGET (R155, R158, R159); none while silent. -/
def State.claimCheck (s : State) : State :=
  if s.claims.silent then s
  else
    let t := if s.view.window.isSome then s.lowerRecords else s
    [Resource.panel, .gantry, .budget].foldl (fun u r => (u.checkResource r).startWait r) t

/-! ## Restating and losing (R158, R160, R161) -/

/-- Every frame of the Claim Unit. -/
def isAnyClaimFrame (b : TxBody) : Bool :=
  isClaimFrame .panel b || isClaimFrame .gantry b || isClaimFrame .budget b

/-- Whether a surplus RELEASE stands in the queue (R158). -/
def isBudgetRelease (b : TxBody) : Bool := match b with | .release .budget _ => true | _ => false

/-- The records at a delivered ATTENTION (R158): `before` is the view before its clear. A window that
was already OPEN keeps them, lowered where the wants have fallen; what R59 reads of its opening stays (assumption
42). -/
def Claims.recordHoldings (c : Claims) (before : View) (address : Nat) : Claims :=
  if before.window.isSome then
    { c with panel := { c.panel with record := c.panel.record && c.panel.want },
             gantry := { c.gantry with record := c.gantry.record && c.gantry.want },
             budget := { c.budget with record := min c.budget.record c.budget.want } }
  else
    { c with panel := { c.panel with record := before.panel.holder == some address && c.panel.want },
             gantry := { c.gantry with record := before.gantry.holder == some address && c.gantry.want },
             budget := { c.budget with record := min c.budget.want (before.heldBy address),
                                       opened := min c.budget.want (before.heldBy address) } }

/-- Every retry timer stopped (R158, R161). -/
def Claims.stopRetries (c : Claims) : Claims :=
  { c with panel := { c.panel with retry := none }, gantry := { c.gantry with retry := none },
           budget := { c.budget with retry := none } }

/-- The surplus is reported returned while the window opens: a held request waits as DEFERRED (R158, R54). -/
def Stim.surplusWithdrawn (m : Stim) : Stim :=
  if m.app = .returningSurplus then
    { m with app := if m.request.isSome then .deferred else .idle }
  else m

/-- The HOLDING frames of a restatement, in the order PANEL, GANTRY, BUDGET (R158). -/
def Claims.holdings (c : Claims) : List TxBody :=
  (if c.panel.record then [.holding .panel 0] else []) ++
  (if c.gantry.record then [.holding .gantry 0] else []) ++
  (if c.budget.record = 0 then [] else [.holding .budget c.budget.record])

/-- The restatement at a delivered ATTENTION (R158); the CLAIM frames follow from the check (R159).
The view has been cleared; `before` is the view before it. -/
def State.restate (s : State) (before : View) : State :=
  let surplus := s.queued isBudgetRelease
  let t := (s.withdraw isAnyClaimFrame).modClaims
    (fun c => c.stopRetries.recordHoldings before s.rbi.address)
  let u := if surplus then t.modStim Stim.surplusWithdrawn else t
  if s.claims.silent then u else u.claims.holdings.foldl State.send u

/-- Every record becomes nothing (R160). -/
def Claims.clearRecords (c : Claims) : Claims :=
  { c with panel := { c.panel with record := false }, gantry := { c.gantry with record := false },
           budget := { c.budget with record := 0 } }

/-- The record of the opening becomes nothing, with the window (R59, R160) or at a RACK HALT (R161). -/
def Claims.forgetOpening (c : Claims) : Claims := { c with budget := { c.budget with opened := 0 } }

/-- Whether PANEL or GANTRY is lost at the close (R160). -/
def State.lostAtClose (s : State) (r : Resource) : Bool := (s.claims.of r).record && !s.holds r

/-- Whether BUDGET is lost at the close (R160). -/
def State.budgetLostAtClose (s : State) : Bool := decide (s.heldNow < s.claims.budget.record)

/-- RELEASE frames for what the view no longer shows are withdrawn (R160). -/
def State.withdrawEmptyReleases (s : State) : State :=
  s.withdraw (fun b =>
    match b with
    | .release .budget _ => s.heldNow == 0 && s.entryNow.isNone
    | .release r _ => !s.shows r
    | _ => false)

/-- RACK HALT at the Claim Unit, after the RBI's purge (R161). -/
def State.claimsHalt (s : State) : State :=
  (s.withdraw isAnyClaimFrame).modClaims (fun c => { c.stopRetries.clearRecords.forgetOpening with request := .none })

/-! ## The gantry exchange (R162, R163) -/

/-- Whether a frame is a MEASURE REQUEST. -/
def isMeasureRequest (b : TxBody) : Bool := match b with | .measureRequest .. => true | _ => false

/-- Queue a MEASURE REQUEST with the tag counter's value, which advances (R162). While an abandoned request is
still on the line the share of 1 is full and the new frame is lost, though the request is QUEUED (assumption 47). -/
def State.queueMeasure (s : State) (spot exposure : Nat) : State :=
  (s.send (.measureRequest s.claims.tag spot exposure)).modClaims
    (fun c => { c with request := .queued s.claims.tag spot exposure, tag := c.tag + 1 })

/-- The Step Engine asks for a measurement (R162): HELD BACK while the window is OPEN. -/
def State.askMeasure (s : State) (spot exposure : Nat) : State :=
  if s.view.window.isSome then s.modClaims (fun c => { c with request := .heldBack spot exposure })
  else if s.holds .gantry then s.queueMeasure spot exposure
  else s

/-- A HELD BACK request at the closing delivery: queued if the station is still holder, dropped otherwise (R162). -/
def State.releaseHeldBack (s : State) : State :=
  match s.claims.request with
  | .heldBack spot exposure =>
    if s.holds .gantry then s.queueMeasure spot exposure
    else s.modClaims (fun c => { c with request := .none })
  | _ => s

/-- The request ends: a QUEUED one is withdrawn if it is not on the line (R162). -/
def State.cancelMeasure (s : State) : State :=
  (s.withdraw isMeasureRequest).modClaims (fun c => { c with request := .none })

/-- The gantry need is handed over (R154). -/
def State.wantGantry (s : State) : State := s.modClaims (fun c => { c with gantry := c.gantry.wanted })

/-- The gantry want ends, and the request with it (R154, R162). While the window is OPEN the record falls and
the frames follow at once (R159), so that a new want at the same event finds nothing of the old. -/
def State.endGantry (s : State) : State :=
  let t := s.cancelMeasure.modClaims (fun c => { c with gantry := c.gantry.ended })
  if t.view.window.isSome && !t.claims.silent then t.lowerRecords.checkResource .gantry else t

/-- A MEASURE REQUEST has been delivered: OUTSTANDING, the result timer running (R162). -/
def State.measureDelivered (s : State) (tag : Tag) : State :=
  match s.claims.request with
  | .queued t _ _ =>
    if t = tag then
      s.modClaims (fun c =>
        { c with request := .outstanding tag (s.after (spanMs ((s.join.params.map (·.gantryTimeout)).getD 0))) })
    else s
  | _ => s

/-- A MEASURE REQUEST has been rejected (R162): queued again while it is wanted and the view shows the station as
holder, none otherwise (assumption 30). -/
def State.measureRejected (s : State) (tag : Tag) : State :=
  match s.claims.request with
  | .queued t spot exposure =>
    if t = tag then
      if s.claims.gantry.want && s.holds .gantry then s.queueMeasure spot exposure
      else s.modClaims (fun c => { c with request := .none })
    else s
  | _ => s

/-- Entry to CONFLICT: wants and records cleared, timers stopped, silent (R153). -/
def State.claimsReset (s : State) : State := s.modClaims (fun c => Claims.cleared c.tag)

end Sys2Proof.Machine
end

