-- ==== Sys2Proof/Machine/Prompt.lean ====
section
/-! DEFINITION. The Prompt Queue (R164 to R174). What an ending hands back to its source stands with
the sources. -/

namespace Sys2Proof.Machine

/-! ## The want of the panel (R164) -/

/-- Whether an entry is CLAIMING or POSTED. -/
def PromptState.active : PromptState → Bool
  | .queued => false
  | _ => true

/-- Whether a frame is a PROMPT POST. -/
def isPost (b : TxBody) : Bool := match b with | .promptPost .. => true | _ => false

/-- Whether a frame is a PROMPT WITHDRAW. -/
def isPromptWithdraw (b : TxBody) : Bool := match b with | .promptWithdraw _ => true | _ => false

/-- The panel is wanted while an entry is CLAIMING or POSTED, a withdrawal is pending, or a POST stands in the
transmit queue: one whose entry was removed while it was on the line keeps the want until its report, lost
arbitrations included (R164, R171). -/
def State.panelWanted (s : State) : Bool :=
  s.prompts.entries.any (fun e => e.state.active) || s.prompts.withdrawal.isSome || s.queued isPost

/-- The Prompt Queue hands its want of the panel to the Claim Unit (R154, R164). -/
def State.syncPanel (s : State) : State :=
  s.modClaims (fun c => { c with panel := if s.panelWanted then c.panel.wanted else c.panel.ended })

/-- The panel is clear (9.2). -/
def State.panelClear (s : State) : Bool :=
  !s.prompts.entries.any (fun e => e.state.active) && s.prompts.withdrawal.isNone &&
  (s.claims.silent || (!s.queued (isClaimFrame .panel) && !s.shows .panel))

/-- With the panel clear the QUEUED head entry becomes CLAIMING and the panel want is set (R166). -/
def State.startPanel (s : State) : State :=
  match s.prompts.entries with
  | e :: es =>
    if s.panelClear && e.state == .queued then
      (s.modPrompts (fun p => { p with entries := { e with state := .claiming none } :: es })).syncPanel
    else s
  | [] => s

/-! ## Joining (R165) -/

/-- A new entry joins in state QUEUED (R165): a STEP entry at the end; a NEST entry at the head, taking
over the claim of a STEP entry not granted yet, or behind a STEP entry POSTED or granted. -/
def joinQueue (e : PromptEntry) (l : List PromptEntry) : List PromptEntry :=
  match e.source, l with
  | .step, l => l ++ [e]
  | .nest, [] => [e]
  | .nest, x :: xs =>
    match x.state with
    | .queued => e :: x :: xs
    | .claiming none => { e with state := .claiming none } :: { x with state := .queued } :: xs
    | .claiming (some _) => x :: e :: xs
    | .posted _ => x :: e :: xs

/-- Hand an entry over to the queue (R165). -/
def State.handOver (s : State) (e : PromptEntry) : State :=
  (s.modPrompts (fun p => { p with entries := joinQueue e p.entries })).syncPanel

/-- The FAULT prompt (R165): kind ACTION, the fault code as its message. -/
def faultPrompt (code : Nat) : PromptEntry := ⟨.nest, 2, code, none, none, .none, .queued⟩

/-- The REMOVE prompt (R165): kind ACTION, message code 900, auto-complete PART-REMOVED. -/
def removePrompt : PromptEntry := ⟨.nest, 2, 900, none, none, .partRemoved, .queued⟩

/-! ## Posting (R167) -/

/-- The PROMPT POST of an entry under a tag (R167). -/
def PromptEntry.post (e : PromptEntry) (tag : Tag) : TxBody := .promptPost tag e.kind e.message e.param

/-- Give the granted entry the next tag and queue its PROMPT POST; `p` picks the entry (R167). -/
def State.postEntry (s : State) (p : PromptEntry → Bool) : State :=
  match s.prompts.entries.find? p with
  | some e =>
    let tag := s.prompts.tag + 1
    (s.modPrompts (fun q =>
      { q with tag := tag,
               entries := q.entries.map (fun x => if p x then { x with state := .claiming (some tag) } else x) })).send
      (e.post tag)
  | none => s

/-- Whether the grant of a resource is to be reported: wanted, held in the own view, the window CLOSED,
not reported yet for this want (R157). -/
def State.grantDue (s : State) (r : Resource) : Bool :=
  s.view.window.isNone && !s.claims.silent && (s.claims.of r).want && !(s.claims.of r).reported && s.holds r

/-- The grant is reported: its wait timer stops (R157). -/
def ExclusiveClaim.granted (x : ExclusiveClaim) : ExclusiveClaim :=
  { x with reported := true, fresh := false, wait := none }

/-- The grant report for the panel: the CLAIMING entry is granted and posted (R157, R167). -/
def State.grantPanel (s : State) : State :=
  if s.grantDue .panel then
    (s.modClaims (fun c => { c with panel := c.panel.granted })).postEntry (fun e => e.state == .claiming none)
  else s

/-- Queue PROMPT WITHDRAW and make the withdrawal pending (R169). -/
def State.beginWithdrawal (s : State) (tag : Tag) : State :=
  (s.modPrompts (fun p => { p with withdrawal := some tag })).send (.promptWithdraw tag)

/-- A PROMPT POST has been delivered: its entry is POSTED and its timer starts; a POST whose entry was
removed is withdrawn (R167, R171). -/
def State.postDelivered (s : State) (tag : Tag) : State :=
  match s.prompts.entries.find? (fun e => e.state == .claiming (some tag)) with
  | some e =>
    (s.modPrompts (fun p =>
      { p with entries := p.entries.map
                 (fun x => if x.state == .claiming (some tag) then { x with state := .posted tag } else x),
               timer := e.timeout.map s.after })).syncPanel
  | none => (s.beginWithdrawal tag).syncPanel

/-- A PROMPT POST has been rejected (R167, R171). -/
def State.postRejected (s : State) (tag : Tag) : State :=
  let t := if s.holds .panel then s.postEntry (fun e => e.state == .claiming (some tag)) else s
  t.syncPanel

/-- A PROMPT WITHDRAW has been delivered (R170); a report that finds no withdrawal changes nothing (R172). -/
def State.withdrawDelivered (s : State) (tag : Tag) : State :=
  (s.modPrompts (fun p => { p with withdrawal := if p.withdrawal = some tag then none else p.withdrawal })).syncPanel

/-- A PROMPT WITHDRAW has been rejected: queued again while still pending (R170). -/
def State.withdrawRejected (s : State) (tag : Tag) : State :=
  if s.prompts.withdrawal = some tag then s.send (.promptWithdraw tag) else s.syncPanel

/-! ## Endings (R168 to R171) -/

/-- Remove the entries of a source. -/
def State.removeEntry (s : State) (src : PromptSource) : State :=
  s.modPrompts (fun p => { p with entries := p.entries.filter (fun e => e.source != src) })

/-- The entry of a source. -/
def State.entryFrom (s : State) (src : PromptSource) : Option PromptEntry :=
  s.prompts.entries.find? (fun e => e.source == src)

/-- The POSTED entry with its tag. -/
def State.postedEntry (s : State) : Option (PromptEntry × Tag) :=
  s.prompts.entries.findSome? (fun e => match e.state with | .posted t => some (e, t) | _ => none)

/-- A POSTED prompt taken down without an answer: steps 1 to 3 of R169. -/
def State.takeDown (s : State) (src : PromptSource) (tag : Tag) : State :=
  (((s.modPrompts (fun p => { p with timer := none })).removeEntry src).beginWithdrawal tag).syncPanel

/-- A source ends its need for its prompt, by the state of its entry (R171). -/
def State.endNeed (s : State) (src : PromptSource) : State :=
  match s.entryFrom src with
  | none => s
  | some e =>
    match e.state with
    | .posted tag => s.takeDown src tag
    | .claiming (some tag) =>
      ((s.withdraw (fun b => isPost b && b == e.post tag)).removeEntry src).syncPanel
    | _ => (s.removeEntry src).syncPanel

/-- Whether the content of a PROMPT ANSWER is one its kind allows: 0 CONFIRM with YES 1 or NO 0, 1
VALUE, 2 ACTION with DONE 1 (R168, R194). -/
def answerAllowed (kind value : Nat) : Bool :=
  match kind with
  | 0 => decide (value ≤ 1)
  | 1 => true
  | 2 => value == 1
  | _ => false

/-- The entry that a PROMPT ANSWER completes (R168). -/
def State.answeredEntry (s : State) (tag : Tag) (kind value : Nat) : Option PromptEntry :=
  match s.postedEntry with
  | some (e, t) => if t = tag ∧ e.kind = kind ∧ answerAllowed kind value then some e else none
  | none => none

/-- A taken answer removes its entry: the prompt timer stops and no WITHDRAW is sent (R168). -/
def State.completePrompt (s : State) (src : PromptSource) : State :=
  ((s.modPrompts (fun p => { p with timer := none })).removeEntry src).syncPanel

/-- The panel's resource wait has expired (R166): a STEP entry is removed, a NEST entry returns to
QUEUED. The Bool says that a STEP entry was removed. -/
def State.panelExpired (s : State) : State × Bool :=
  match s.prompts.entries.find? (fun e => e.state == .claiming none) with
  | some e =>
    match e.source with
    | .step => ((s.removeEntry .step).syncPanel, true)
    | .nest =>
      ((s.modPrompts (fun p =>
        { p with entries := p.entries.map (fun x =>
            if x.state == .claiming none then { x with state := .queued } else x) })).syncPanel, false)
  | none => (s.syncPanel, false)

/-! ## The rebuild window, loss, halt, reset, conflict (R164, R167, R172 to R174) -/

/-- A queued POST that is not on the line is withdrawn at an ATTENTION; its entry keeps its grant, and the want
falls when it has none (R167, R171). -/
def State.promptsAttention (s : State) : State := (s.withdraw isPost).syncPanel

/-- At the close the POST of a granted entry is queued again with the next tag (R167). -/
def State.promptsClose (s : State) : State :=
  if s.queued isPost then s
  else s.postEntry (fun e => match e.state with | .claiming (some _) => true | _ => false)

/-- An entry whose panel is lost returns to QUEUED; one whose claim was not granted stays (R172). -/
def PromptEntry.lost (e : PromptEntry) : PromptEntry :=
  match e.state with
  | .claiming none => e
  | _ => { e with state := .queued }

/-- The panel is reported lost (R172). -/
def State.promptsLost (s : State) : State :=
  ((s.withdraw (fun b => isPost b || isPromptWithdraw b)).modPrompts
    (fun p => { p with entries := p.entries.map PromptEntry.lost, timer := none, withdrawal := none })).syncPanel

/-- Every entry dropped, the timer stopped and the withdrawal none (R164, R173). -/
def State.promptsDrop (s : State) : State :=
  (s.modPrompts (fun p => { p with entries := [], timer := none, withdrawal := none })).syncPanel

/-- Entry to CONFLICT (R174). -/
def State.promptsConflict (s : State) : State :=
  s.modPrompts (fun p =>
    { p with entries := p.entries.map (fun e => { e with state := .queued }), timer := none, withdrawal := none })

end Sys2Proof.Machine
end

