-- ==== Sys2Proof/Machine/NestBase.lean ====
section
/-! DEFINITION. The moves of the nest that other blocks call for, and the Verdict History with
SUSPECT (R23, R32, R33, R40, R57, R125). -/

namespace Sys2Proof.Machine

/-! ## Nest states and the valve (R23, R57) -/

/-- A nest in CLAMPING, CLAMPED, CONTACTING, READY or TESTING (R32, R34 to R36). -/
def nestClamped : NestState → Bool
  | .clamping | .clamped | .contacting | .ready | .testing => true
  | _ => false

/-- A nest in CONTACTING or TESTING, where stimulus may stand (R57). -/
def nestLive : NestState → Bool
  | .contacting | .testing => true
  | _ => false

/-- The valve level of a nest state; HELD keeps the level it had (R23). -/
def valveIn (st : NestState) (old : Bool) : Bool :=
  match st with
  | .held => old
  | st => nestClamped st

/-- Whether the slot holds an acquisition of the Nest Controller (R82). -/
def State.nestAcquires (s : State) : Bool :=
  match s.sense.slot with
  | some a => a.forNest
  | none => false

/-- Enter a nest state: the valve follows (R23); leaving CONTACTING or TESTING applies SAFE (R57) and
ends the contact check (R29, R82); entering one of them sets the overdraw count to 0 (R59). -/
def State.nestTo (s : State) (st : NestState) : State :=
  if s.nest.state = st then s
  else
    let t := if nestLive s.nest.state then s.applySafe else s
    let u := if t.nestAcquires then t.emptySlot else t
    (if nestLive st then u.modStim (fun m => { m with overdraw := 0 }) else u).modNest
      (fun n => { n with state := st, valve := valveIn st n.valve, contact := .none })

/-- The expiry of a clamp timer started now; none before the rack parameters give its time (R22, R186). -/
def State.clampExpiry (s : State) : Option Nat := s.join.params.map (fun p => s.after (spanMs p.clampTimeout))

/-- Set the clamp timer. -/
def State.setClampTimer (s : State) (t : Option Nat) : State := s.modNest (fun n => { n with clampTimer := t })

/-- The clamp of a RELEASING nest is open (R33): UNLOAD with the REMOVE prompt, or EMPTY. -/
def State.clampOpened (s : State) : State :=
  let t := s.setClampTimer none
  if t.nest.partPresent.level then (t.nestTo .unload).handOver removePrompt else t.nestTo .empty

/-- Enter RELEASING with the clamp timer started; a clamp already open proceeds at once (R32, R33). -/
def State.enterReleasing (s : State) : State :=
  let t := (s.nestTo .releasing).setClampTimer s.clampExpiry
  if t.nest.clampOpen.level then t.clampOpened else t

/-- What a unit end does to the nest (R32): a clamped nest is released, any other stays where it is. -/
def State.unitReleases (s : State) : State := if nestClamped s.nest.state then s.enterReleasing else s

/-! ## The Verdict History and SUSPECT (R40, R125) -/

/-- SUSPECT after a change of the history (R40). -/
def State.evaluateSuspect (s : State) : State :=
  let limit := (s.join.params.map (·.suspectLimit)).getD 0
  if limit ≠ 0 ∧ limit ≤ s.history.count .fail then s.modNest (fun n => { n with suspect := true }) else s

/-- A verdict pushed on top of the history (R125). -/
def State.pushHistory (s : State) (e : HistoryEntry) : State :=
  (s.modHistory (fun h => (e :: h).take 8)).evaluateSuspect

/-- VOID UNIT on the history (R125). -/
def State.popHistory (s : State) : State :=
  (s.modHistory (fun h => if h.head? = some .empty then h else h.drop 1 ++ [.empty])).evaluateSuspect

/-- The history reset and SUSPECT cleared (R25, R40, R125). -/
def State.resetHistory (s : State) : State :=
  ((s.modHistory (fun _ => History.reset)).modNest (fun n => { n with suspect := false })).evaluateSuspect

end Sys2Proof.Machine
end

