-- ==== Sys2Proof/Machine/Engine.lean ====
section
/-! DEFINITION. The Step Engine and the Verdict Store: attempts, readings, the end of a step, the end
and the abort of a unit (R99 to R122). A `Phase` is a move that follows within the same event; `drive`
makes moves until none follows. -/

namespace Sys2Proof.Machine

/-! ## The Verdict Store (R115, R116, R122) -/

/-- Whether a record is OPEN (R122). -/
def UnitRecord.isOpen (r : UnitRecord) : Bool := r.verdict == .unfinished

/-- The OPEN record, if a unit is open (R122). -/
def State.openRecord (s : State) : Option UnitRecord := s.store.records.find? UnitRecord.isOpen

/-- Update the OPEN record. -/
def State.modOpen (s : State) (f : UnitRecord → UnitRecord) : State :=
  s.modStore (fun v => { v with records := v.records.map (fun r => if r.isOpen then f r else r) })

/-- The first value at or after `n` that no record of the store holds; `k` bounds the search (R122). -/
def freeSequence (l : List UnitRecord) : Nat → BitVec 16 → BitVec 16
  | 0, n => n
  | k + 1, n => if l.any (fun r => r.seq == n) then freeSequence l k (n + 1) else n

/-- The sequence number the next record takes (R122). -/
def VerdictStore.nextSequence (v : VerdictStore) : BitVec 16 := freeSequence v.records v.records.length v.counter

/-- Append a result to the open record (R115). -/
def State.appendResult (s : State) (r : StepResult) : State :=
  s.modOpen (fun u => { u with results := u.results ++ [r] })

/-- Close the open record (R117, R120). -/
def State.closeRecord (s : State) (v : Verdict) (code : Option Nat) : State :=
  s.modOpen (fun u => { u with finish := some s.ms, verdict := v, firstFail := code })

/-- The verdict of a unit of `n` steps that ends normally or by STOP (R116). -/
def unitPasses (n : Nat) (l : List StepResult) : Bool :=
  decide (l.length = n) && l.all (fun r => r.outcome == .pass)

/-- The step record of an index; the default stands for an empty slot, which no sealed plan has (R18). -/
def Plan.step (p : Plan) (k : Nat) : StepRecord :=
  (slotGet p.steps k).getD ⟨0, none, none, none, 0, 1, none, none, 1, false, .none⟩

/-- The first fail code of a FAIL verdict (R116). -/
def firstFailCode (p : Plan) (l : List StepResult) : Option Nat :=
  (l.find? (fun r => r.outcome == .fail || r.outcome == .noSignal)).map (fun r => (p.step r.step).failCode)

/-- Queue a VERDICT NOTICE (R176): 1 PASS, 2 FAIL, 3 ABORTED; fail code 0 for none. -/
def State.sendNotice (s : State) (verdict : Nat) (code : Option Nat) : State :=
  s.send (.verdictNotice verdict (code.getD 0) (s.nest.fixture.getD 0))

/-! ## Unit end and abort (R117, R118, R120) -/

/-- The engine enters ENDING, its timers stopped (R117, R120; assumption 29). -/
def State.engineEnding (s : State) : State :=
  s.modEngine (fun e => { e with state := .ending, attempt := 0, count := 0, last := none, dwell := none, settle := none })

/-- A unit ends normally or by STOP (R117). -/
def State.unitEnd (s : State) : State :=
  let results := (s.openRecord.map (·.results)).getD []
  let pass := unitPasses s.plan.stepCount results
  let code := if pass then none else firstFailCode s.plan results
  let t := (s.engineEnding.applySafe.settleBudget 0).endNeed .step
  let u := t.closeRecord (if pass then .pass else .fail) code
  ((u.pushHistory (if pass then .pass else .fail)).sendNotice (if pass then 1 else 2) code).unitReleases

/-- Whether the engine was running a step (R120). -/
def Engine.running (e : Engine) : Bool :=
  match e.state with
  | .idle | .ending => false
  | _ => decide (0 < e.attempt)

/-- The result of a step that an abort cuts short (R120). -/
def Engine.abortResult (e : Engine) (code : Nat) : StepResult :=
  ⟨e.step, max 1 e.attempt, .error, none, {}, some code⟩

/-- The teardown of an abort, which acts only while a unit is open (R119, R120). -/
def State.abortUnit (s : State) (code : Nat) : State :=
  if s.openRecord.isNone then s
  else
    let t := s.applySafe.emptySlot
    let u := if s.engine.running then t.appendResult (s.engine.abortResult code) else t
    let v := (((u.engineEnding).endNeed .step).settleBudget 0).endGantry
    (((v.closeRecord .aborted (some code)).pushHistory .aborted).sendNotice 3 (some code)).unitReleases

/-- ENDING ends once the own view shows no budget, no budget entry and neither holding of nor waiting
for the gantry (R118). -/
def State.endingExit (s : State) : State :=
  if s.engine.state = .ending ∧ s.heldNow = 0 ∧ s.entryNow = none ∧ s.shows .gantry = false then
    s.modEngine (fun e => { e with state := .idle })
  else s

/-! ## Arming (R75, R82, R108) -/

/-- Arm the next acquisition of a MEASURE step's source (R108). -/
def State.armSource (s : State) (r : StepRecord) : State :=
  match r.source with
  | .cell c m g n => s.arm false (cellSource c m) g n
  | .netfield c st l sg => s.armCapture c st l (sg == 1)
  | .elapsed c e => s.arm false (.elapsed c (e == 0)) 0 0
  | _ => s

/-- Abandon the acquisition in progress (R82, R75). -/
def State.abandon (s : State) : State := s.emptySlot.disarm

/-- The step the engine runs. -/
def State.stepNow (s : State) : StepRecord := s.plan.step s.engine.step

/-- Start the settle timer with the step's settle timeout (R108, R110, R111). -/
def State.startSettle (s : State) (r : StepRecord) : State :=
  s.modEngine (fun e => { e with settle := r.settle.map (fun c => s.after (spanMs c)) })

/-- The gantry is reported held (R111): AWAIT-RESULT, the settle timer, the MEASURE REQUEST. -/
def State.gantryGranted (s : State) : State :=
  let r := s.stepNow
  let t := ((s.modClaims (fun c => { c with gantry := c.gantry.granted })).modEngine
    (fun e => { e with state := .awaitResult })).startSettle r
  match r.source with
  | .spot sp ex => t.askMeasure sp ex
  | _ => t

/-- The grant of the gantry, reported to an engine in AWAIT-RESOURCE (R157, R111), also while a RELEASE of an earlier
want is on the line (assumption 64). -/
def State.grantGantry (s : State) : State :=
  if s.grantDue .gantry then
    if s.engine.state = .awaitResource then s.gantryGranted
    else s.modClaims (fun c => { c with gantry := c.gantry.granted })
  else s

/-! ## The phases (R103 to R116) -/

/-- The qualified state of a condition as the engine reads it (R98). -/
def State.qualified (s : State) (c : Nat) : Bool := (vecGet s.sense.conditions c ⟨false, none⟩).qualified

/-- The three clear requests at an attempt start (R103); flag source 15 follows LATE (R65). -/
def State.clearMarks (s : State) : State :=
  let t := s.clearClamped.clearLate.clearOverrange
  if s.net.anyLate then (t.sourceChanged 15).1 else t

/-- The start of an attempt (R103). -/
def State.attemptStart (s : State) : State × Option Phase :=
  let t := (s.modEngine (fun e => { e with attempt := e.attempt + 1, count := 0, last := none })).clearMarks
  match s.stepNow.scene with
  | some (sc, rep) => (t.modEngine (fun e => { e with state := .applying })).requestScene sc rep
  | none => (t, some .applied)

/-- The scene is reported applied: the dwell (R104). -/
def State.sceneApplied (s : State) : State × Option Phase :=
  match s.stepNow.dwell with
  | some d => (s.modEngine (fun e => { e with state := .dwell, dwell := some (s.after (spanMs d)) }), none)
  | none => (s, some .part)

/-- The prompt of a JUDGE step (R113, R165). -/
def StepRecord.prompt (r : StepRecord) (kind message presence : Nat) (parameter : Int) : PromptEntry :=
  ⟨.step, kind, message, if presence = 1 then some parameter else none, r.settle.map spanMs,
   match r.auto with | some c => .condition c | none => .none, .queued⟩

/-- The JUDGE step's prompt handed over, or completed at once by its condition (R113, R165). -/
def State.judgePart (s : State) (r : StepRecord) : State × Option Phase :=
  match r.source with
  | .prompt k m pr x =>
    let t := s.modEngine (fun e => { e with state := .awaitAnswer })
    match r.auto with
    | some c => if s.qualified c then (t, some (.ended .pass none false)) else (t.handOver (r.prompt k m pr x), none)
    | none => (t.handOver (r.prompt k m pr x), none)
  | _ => (s, none)

/-- The part of the attempt that belongs to the step's kind (R105, R108, R110, R111, R113). -/
def State.kindPart (s : State) : State × Option Phase :=
  let r := s.stepNow
  match r.kind with
  | 0 => (s, some (.ended .pass none false))
  | 1 => (((s.modEngine (fun e => { e with state := .acquiring })).startSettle r).armSource r, none)
  | 2 =>
    let t := (s.modEngine (fun e => { e with state := .acquiring })).startSettle r
    match r.source with
    | .event c 2 => if s.qualified c then (t, some (.ended .pass none false)) else (t, none)
    | .event c 3 => if s.qualified c then (t, none) else (t, some (.ended .pass none false))
    | _ => (t, none)
  | 3 => ((s.wantGantry.modEngine (fun e => { e with state := .awaitResource })).grantGantry, none)
  | _ => s.judgePart r

/-- The annotations of an attempt (R114). -/
def attemptNotes (rd : Option Reading) (unsettled late clamped overrange : Bool) : Annotations :=
  match rd with
  | some (.value _ i sa st) =>
    { inexact := i, saturated := sa, still := st, unsettled := unsettled, stimulusLate := late,
      clamped := clamped, overrange := overrange }
  | _ => { unsettled := unsettled, stimulusLate := late, clamped := clamped, overrange := overrange }

/-- A LATE flag demotes PASS to MARGINAL (R114). -/
def demote (o : AttemptOutcome) (late : Bool) : AttemptOutcome := if late = true ∧ o = .pass then .marginal else o

/-- The value of a deciding reading (R115). -/
def readingValue : Option Reading → Option Int
  | some (.value v ..) => some v
  | _ => none

/-- The final outcome of a step whose attempts are over: MARGINAL has become FAIL (R115). -/
def finalOutcome : AttemptOutcome → StepOutcome
  | .pass => .pass
  | .marginal => .fail
  | .fail => .fail
  | .noSignal => .noSignal
  | .error _ => .error

/-- What follows a final outcome (R116): the abort, the unit end, or the next step. -/
def State.afterStep (s : State) (r : StepRecord) (o : AttemptOutcome) : State × Option Phase :=
  match o with
  | .error code => (s.abortUnit code, none)
  | o =>
    if (r.stop ∧ o ≠ .pass) ∨ s.plan.stepCount ≤ s.engine.step + 1 then (s.unitEnd, none)
    else (s.modEngine (fun e => { e with step := e.step + 1 }), some .attemptStart)

/-- The end of an attempt (R114, R115): the timers stop, a LIGHT step gives up its gantry (R111). -/
def State.attemptEnd (s : State) (o : AttemptOutcome) (rd : Option Reading) (unsettled : Bool) : State × Option Phase :=
  let r := s.stepNow
  let t := s.modEngine (fun e => { e with dwell := none, settle := none })
  let u := if r.kind = 3 then t.endGantry else t
  let n := s.engine.attempt
  match o with
  | .error code =>
    let v := u.appendResult ⟨s.engine.step, n, .error, none, {}, some code⟩
    (v.modEngine (fun e => { e with attempt := 0 })).afterStep r o
  | o =>
    let late := s.net.anyLate
    let o' := demote o late
    if o' = .marginal ∧ n < 1 + r.retest then (u, some .attemptStart)
    else
      let notes := attemptNotes rd unsettled late s.stim.anyClamped s.net.overrange
      let v := u.appendResult
        ⟨s.engine.step, n, finalOutcome o', readingValue rd,
         { notes with marginalExhausted := o' == .marginal }, none⟩
      (v.modEngine (fun e => { e with attempt := 0 })).afterStep r (if o' = .marginal then .fail else o')

/-- One move of the engine. -/
def State.phase (s : State) : Phase → State × Option Phase
  | .attemptStart => s.attemptStart
  | .applied => s.sceneApplied
  | .part => s.kindPart
  | .ended o rd unsettled => s.attemptEnd o rd unsettled

/-- Make moves until none follows; the fuel is never used up by a plan that can be sealed (assumption 23). -/
def State.drive : Nat → State × Option Phase → State
  | 0, (s, _) => s
  | _ + 1, (s, none) => s
  | n + 1, (s, some p) => State.drive n (s.phase p)

/-- A move reported to the engine and all that follow within the event. -/
def State.run (r : State × Option Phase) : State := State.drive Config.engineFuel r

/-- A report of the Stimulus Unit, heard by an engine in APPLYING (R103). -/
def State.report (r : State × Option Phase) : State :=
  if r.1.engine.state = .applying then State.run r else r.1

/-! ## Readings and answers (R106 to R113) -/

/-- The outcome of an attempt that a class decides. -/
def ReadingClass.outcome : ReadingClass → AttemptOutcome
  | .pass => .pass
  | .marginal => .marginal
  | .fail => .fail
  | .noSignal => .noSignal

/-- The window of a step. -/
def Plan.windowOf (p : Plan) (r : StepRecord) : Window :=
  (r.window.bind (fun w => slotGet p.windows w)).getD ⟨0, 0, 0⟩

/-- A reading handed over to the engine (R107, R108, R111): discarded unless the engine waits for one.
A PASS counts towards S; otherwise the next acquisition is armed or the next measurement asked for. -/
def State.handReading (s : State) (rd : Reading) : State :=
  let r := s.stepNow
  let cls := classify (s.plan.windowOf r) rd
  let c := if cls = .pass then s.engine.count + 1 else 0
  let t := s.modEngine (fun e => { e with last := some (rd, cls), count := c })
  match s.engine.state, r.kind with
  | .acquiring, 1 =>
    if cls = .pass ∧ r.count ≤ c then State.run (t, some (.ended .pass (some rd) false)) else t.armSource r
  | .awaitResult, 3 =>
    if cls = .pass ∧ r.count ≤ c then State.run (t, some (.ended .pass (some rd) false))
    else match r.source with
      | .spot sp ex => t.askMeasure sp ex
      | _ => t
  | _, _ => s

/-- The outcome at a settle timeout, from the last reading (R109). -/
def timeoutPhase : Option (Reading × ReadingClass) → Phase
  | none => .ended .noSignal none false
  | some (rd, .pass) => .ended .marginal (some rd) true
  | some (rd, c) => .ended c.outcome (some rd) false

/-- The settle timer expires (R109, R110, R111). -/
def State.settleExpired (s : State) : State :=
  let r := s.stepNow
  let t := s.modEngine (fun e => { e with settle := none })
  match r.kind with
  | 2 => State.run (t, some (.ended .fail (some (exactReading ((r.settle.map spanMs).getD 0))) false))
  | _ => State.run (t.abandon, some (timeoutPhase s.engine.last))

/-- A LIGHT attempt ends in ERROR (R112). -/
def State.lightError (s : State) (code : Nat) : State := State.run (s, some (.ended (.error code) none false))

/-- The answer to a step prompt (R113, R168). -/
def State.judgeAnswer (s : State) (kind value : Nat) : State :=
  match kind with
  | 0 => State.run (s, some (.ended (if value = 1 then .pass else .fail) none false))
  | 1 =>
    let rd := exactReading (signed32 value)
    let cls := classify (s.plan.windowOf s.stepNow) rd
    State.run (s.modEngine (fun e => { e with last := some (rd, cls) }), some (.ended cls.outcome (some rd) false))
  | _ => State.run (s, some (.ended .pass none false))

/-- A JUDGE attempt ends with an outcome that carries no reading (R113). -/
def State.judgeEnds (s : State) (o : AttemptOutcome) : State :=
  if s.engine.state = .awaitAnswer then State.run (s, some (.ended o none false)) else s

/-- READY reported: the engine begins step 0 and the nest enters TESTING (R102, R32). -/
def State.beginSteps (s : State) : State :=
  if s.openRecord.isSome ∧ s.engine.state = .idle then
    State.run ((s.nestTo .testing).modEngine (fun e => { e with step := 0, attempt := 0 }), some .attemptStart)
  else s

end Sys2Proof.Machine
end

