-- ==== Sys2Proof/Machine/NestEvents.lean ====
section
/-! DEFINITION. What the Nest Controller does at its events: clamping, the contact check, FAULT, the
guard, the part, the halt (R22 to R41), and the offer of condition events to whoever waits (R98). -/

namespace Sys2Proof.Machine

/-! ## Condition events (R88, R98, R110, R169) -/

/-- Whether an EVENT code is met by an event: 0 RISE, 1 FALL, 2 TRUE, 3 FALSE (R110, R195). -/
def eventMet (code : Nat) (rise : Bool) : Bool :=
  match code with
  | 0 => rise
  | 2 => rise
  | _ => !rise

/-- The armed ELAPSED acquisition that an event completes (R88). -/
def State.elapsedFor (s : State) (e : Nat × Bool) : Option Acquisition :=
  match s.sense.slot with
  | some a => if a.source = .elapsed e.1 e.2 then some a else none
  | none => none

/-- Whether a WAIT step waits for an event (R110). -/
def State.waitsFor (s : State) (e : Nat × Bool) : Bool :=
  s.engine.state == .acquiring && (s.stepNow.kind == 2) &&
  (match s.stepNow.source with
   | .event c code => c == e.1 && eventMet code e.2
   | _ => false)

/-- Whether a step prompt is auto-completed by an event: the RISE of its condition (R169). -/
def State.promptFor (s : State) (e : Nat × Bool) : Bool :=
  match s.entryFrom .step with
  | some p => e.2 && p.auto == .condition e.1
  | none => false

/-- Whether any party waits for an event (R98). -/
def State.awaited (s : State) (e : Nat × Bool) : Bool :=
  (s.elapsedFor e).isSome || s.waitsFor e || s.promptFor e

/-- An event reaches the party that waits for it (R98). -/
def State.deliverEvent (s : State) (e : Nat × Bool) : State :=
  match s.elapsedFor e with
  | some a => s.emptySlot.handReading (exactReading ((s.ms - a.armMs).toNat : Nat))
  | none =>
    if s.waitsFor e then State.run (s.modEngine (fun x => { x with settle := none }), some (.ended .pass none false))
    else if s.promptFor e then (s.endNeed .step).judgeEnds .pass
    else s

/-- Offer the events of one change to a party that waited before it: `before` is the engine then. A change
that has moved the engine, or armed it, leaves no such party (R88, R98, R110; assumption 16). -/
def State.offer (before : Engine) (r : State × List (Nat × Bool)) : State :=
  if r.1.engine = before then
    match r.2.find? r.1.awaited with
    | some e => r.1.deliverEvent e
    | none => r.1
  else r.1

/-! ## FAULT (R27, R38, R39) -/

/-- Enter FAULT with a code (R38). -/
def State.enterFault (s : State) (code : Nat) : State :=
  let fromUnload := s.nest.state = .unload
  let t := (s.nestTo .fault).modNest (fun n => { n with clampTimer := none, fault := some code })
  let u := t.abortUnit code
  (if fromUnload then u.endNeed .nest else u).handOver (faultPrompt code)

/-- Whether the clamp sensors are in conflict (R27). -/
def Nest.conflict (n : Nest) : Bool := n.clampClosed.level && n.clampOpen.level

/-- A fault is cleared (R39): RELEASING, LOADED or EMPTY by the sensors. -/
def State.faultCleared (s : State) : State :=
  let t := s.modNest (fun n => { n with fault := none })
  if t.nest.clampClosed.level then t.enterReleasing
  else if t.nest.partPresent.level then t.nestTo .loaded
  else t.nestTo .empty

/-! ## The contact check (R28 to R31) -/

/-- The lowest CONTACT PAIR slot at or above `k` that holds a record (R29). -/
def Plan.pairFrom (p : Plan) (k : Nat) : Option (Nat × ContactPair) := p.pairs.find? (fun e => decide (k ≤ e.1))

/-- READY entered and reported (R32, R102). -/
def State.becomeReady (s : State) : State := (s.nestTo .ready).beginSteps

/-- Every pair has passed (R29). -/
def State.checkPassed (s : State) : State :=
  (s.modNest (fun n => { n with counter := 0, forced := false })).becomeReady

/-- Work on a pair: its drive and the 10 ms wait (R29). -/
def State.startPair (s : State) (k : Nat) (r : ContactPair) : State :=
  (s.driveTest r.channel r.value).modNest
    (fun n => { n with position := k, contact := .waiting (s.after Config.contactWaitMs) })

/-- The next pair at or above slot `k`, or the end of the check (R29); a plan with no pair leaves the contact position as
it was (R28, assumption 62). -/
def State.nextPair (s : State) (k : Nat) : State :=
  match s.plan.pairFrom k with
  | some (i, r) => s.startPair i r
  | none => s.checkPassed

/-- Whether a contact check is due at CLAMPED (R28). -/
def State.checkDue (s : State) : Bool :=
  let interval := (s.join.params.map (·.interval)).getD 0
  let wearLimit := (s.join.params.map (·.wearLimit)).getD 0
  s.nest.forced || decide (interval ≤ s.nest.counter) || s.nest.suspect ||
  (wearLimit != 0 && decide (wearLimit ≤ s.nest.wear))

/-- The clamp has closed in CLAMPING (R26), and the decision at CLAMPED (R28). -/
def State.clampClosed (s : State) : State :=
  let t := (s.nestTo .clamped).modNest
    (fun n => { n with clampTimer := none, wear := min 16777215 (n.wear + 1), counter := min 255 (n.counter + 1) })
  if t.checkDue then (t.nestTo .contacting).nextPair 0 else t.becomeReady

/-- Enter CLAMPING with the clamp timer started; a clamp already closed proceeds at once (R25, R26). -/
def State.enterClamping (s : State) : State :=
  let t := (s.nestTo .clamping).setClampTimer s.clampExpiry
  if t.nest.clampClosed.level && !t.nest.clampOpen.level then t.clampClosed else t

/-- The reseat's clamp is open (R30). -/
def State.reseatOpened (s : State) : State := s.enterClamping

/-- The first contact failure of a unit (R30). Check forced is set, whatever called for the check, so that the
whole check repeats and the flag stays set at a 902 (R30, R31; assumption 44). -/
def State.startReseat (s : State) : State :=
  let t := s.applySafe.modNest (fun n =>
    { n with reseat := true, forced := true, valve := false, contact := .opening })
  let u := t.setClampTimer t.clampExpiry
  if u.nest.clampOpen.level then u.reseatOpened else u

/-- A contact reading has been taken (R29 to R31). -/
def State.contactReading (s : State) (rd : Reading) : State :=
  let window := ((slotGet s.plan.pairs s.nest.position).bind (fun r => slotGet s.plan.windows r.window)).getD ⟨0, 0, 0⟩
  let t := s.returnTest
  if classify window rd = .pass then t.nextPair (s.nest.position + 1)
  else if s.nest.reseat then t.enterFault 902
  else t.startReseat

/-- The 10 ms wait of a pair has ended: await the next monitor reading, or arm the acquisition (R29). -/
def State.contactWaited (s : State) : State :=
  match slotGet s.plan.pairs s.nest.position with
  | some r =>
    if r.cell ≤ 1 then s.modNest (fun n => { n with contact := .monitor s.now })
    else (s.arm true (.level r.cell) 0 16).modNest (fun n => { n with contact := .acquiring })
  | none => s

/-! ## Holds, guard and part (R34 to R37) -/

/-- A HELD nest with no hold reason left leaves HELD (R37). -/
def State.leaveHeld (s : State) : State :=
  if s.nest.state = .held ∧ s.nest.holdGuard = false ∧ s.nest.holdHalt = false then
    if s.nest.conflict then s.enterFault 907 else s.enterReleasing
  else s

/-- Hold a clamped nest for a reason, the clamp timer stopped (R34, R36). -/
def State.holdNest (s : State) (guard halt : Bool) : State :=
  (s.nestTo .held).modNest (fun n => { n with clampTimer := none, holdGuard := guard, holdHalt := halt })

/-- The guard has changed (R34). -/
def State.guardChanged (s : State) : State :=
  if s.nest.guardClosed.level then
    if s.nest.state = .held then (s.modNest (fun n => { n with holdGuard := false })).leaveHeld else s
  else if nestClamped s.nest.state then ((s.applySafe.holdNest true false).abortUnit 901)
  else if s.nest.state = .held then s.modNest (fun n => { n with holdGuard := true })
  else s

/-- The part sensor has changed (R24, R33, R35). -/
def State.partChanged (s : State) : State :=
  if s.nest.partPresent.level then
    if s.nest.state = .empty then s.nestTo .loaded else s
  else match s.nest.state with
    | .loaded => s.nestTo .empty
    | .unload => (s.nestTo .empty).endNeed .nest
    | st => if nestClamped st then s.enterReleasing.abortUnit 908 else s

/-- A clamp sensor has changed (R26, R27, R30, R33). `opened` says that clamp-open became true. -/
def State.clampChanged (s : State) (opened : Bool) : State :=
  if s.nest.conflict then
    if s.nest.state = .held ∨ s.nest.state = .fault then s else s.enterFault 907
  else match s.nest.state with
    | .clamping => if s.nest.clampClosed.level then s.clampClosed else s
    | .releasing => if opened then s.clampOpened else s
    | .contacting => if opened ∧ s.nest.contact = .opening then s.reseatOpened else s
    | _ => s

/-- The clamp timer expires (R26, R30, R33): FAULT 906. -/
def State.clampTimedOut (s : State) : State := s.enterFault 906

/-- The state derived when SELF-CHECK ends (R22). -/
def State.deriveNest (s : State) : State :=
  let t := s.modNest (fun n => { n with derived := true })
  if t.nest.conflict then t.enterFault 907
  else if !t.nest.clampOpen.level then t.nestTo .releasing
  else if t.nest.partPresent.level then t.nestTo .loaded
  else t.nestTo .empty

/-- RACK HALT at the nest (R36). -/
def State.nestHalt (s : State) : State :=
  if nestClamped s.nest.state then s.holdNest false true
  else if s.nest.state = .held then s.modNest (fun n => { n with holdHalt := true })
  else s

/-- LINE RESUME at the nest (R36, R37). -/
def State.nestResume (s : State) : State := (s.modNest (fun n => { n with holdHalt := false })).leaveHeld

/-- The FAULT or REMOVE prompt queued again (R36, R41). -/
def State.requeuePrompt (s : State) : State :=
  match s.nest.state, s.nest.fault with
  | .fault, some code => s.handOver (faultPrompt code)
  | .unload, _ => s.handOver removePrompt
  | _, _ => s

/-! ## Sensor events (R21) -/

/-- The sensor of the nest that an operand names. -/
def Nest.sensor (n : Nest) : Sensor → Deglitch
  | .partPresent => n.partPresent
  | .clampClosed => n.clampClosed
  | .clampOpen => n.clampOpen
  | .guardClosed => n.guardClosed

/-- Replace a sensor of the nest. -/
def Nest.setSensor (n : Nest) (x : Sensor) (d : Deglitch) : Nest :=
  match x with
  | .partPresent => { n with partPresent := d }
  | .clampClosed => { n with clampClosed := d }
  | .clampOpen => { n with clampOpen := d }
  | .guardClosed => { n with guardClosed := d }

/-- The flag source of a sensor (R94). -/
def sensorSource : Sensor → Option Nat
  | .partPresent => some 12
  | .clampClosed => some 13
  | .guardClosed => some 14
  | .clampOpen => none

/-- What the nest does once a sensor has its new deglitched level; nothing before SELF-CHECK has ended (R20). -/
def State.nestActs (s : State) (x : Sensor) : State :=
  if s.nest.derived then
    match x with
    | .partPresent => s.partChanged
    | .clampClosed => s.clampChanged false
    | .clampOpen => s.clampChanged s.nest.clampOpen.level
    | .guardClosed => s.guardChanged
  else s

/-- A deglitched sensor value changes: the conditions that name it are evaluated, the nest acts, and the events
are offered to a party that waited before and waits still (R21, R94, R95; assumption 15). -/
def State.sensorChange (s : State) (x : Sensor) (dt : Nat) : State :=
  match (s.nest.sensor x).endsAt with
  | none => s.elapse dt
  | some t =>
    let u := (s.elapseTo dt t).modNest (fun n => n.setSensor x (n.sensor x).take)
    match sensorSource x with
    | some n =>
      let r := u.sourceChanged n
      State.offer s.engine (r.1.nestActs x, r.2)
    | none => u.nestActs x

end Sys2Proof.Machine
end

