-- ==== Sys2Proof/Machine/SenseEvents.lean ====
section
/-! DEFINITION. The events of the Sense Unit: reading instants, edges, logic levels, gate timeouts,
count intervals and qualify timers (R78 to R87, R96), with the overdraw monitor (R59). -/

namespace Sys2Proof.Machine

/-! ## Reading instants (R59, R78, R79, R84) -/

/-- The background readings formed at a reading instant (R78). -/
def State.formBackground (s : State) : State :=
  let form := fun c => backgroundReading c (s.plan.cellSetup c) (vecGet s.sense.samples c [])
  s.modSense (fun x => { x with background := #v[form 0, form 1, form 2, form 3] })

/-- The background reading of an analogue cell. -/
def State.monitor (s : State) (c : Nat) : Reading := vecGet s.sense.background c .noSignal

/-- The flag of one analogue cell at a reading instant, and the events of the conditions that name it (R79,
R95): a change of its own, whose events reach whoever waits when it comes (assumption 16). -/
def State.flagInstant (s : State) (c : Nat) : State :=
  let old := vecGet s.sense.flags c false
  let new := analogueFlag old (s.monitor c) (s.plan.cellSetup c)
  if new = old then s
  else
    let t := s.modSense (fun x => { x with flags := vecMod x.flags c (fun _ => new) })
    State.offer s.engine (t.sourceChanged c)

/-- The H of R59: what the own view shows held at this event; while the window is OPEN the budget recorded as held at
the opening ATTENTION, whatever W has fallen to since (assumption 42). -/
def State.overdrawH (s : State) : Nat := if s.view.window.isSome then s.claims.budget.opened else s.heldNow

/-- The overdraw threshold in mA (R59). -/
def State.overdrawThreshold (s : State) : Nat :=
  s.overdrawH * 50 + (s.join.params.map (·.margin)).getD 0

/-- Whether a monitor reading lies above a threshold. -/
def Reading.above (r : Reading) (threshold : Nat) : Bool :=
  match r with
  | .value v .. => decide ((threshold : Int) < v)
  | .noSignal => false

/-- The overdraw comparison of a reading instant (R59): the third reading above in a row applies SAFE
and aborts the unit with 903. -/
def State.overdrawCheck (s : State) : State :=
  if nestLive s.nest.state then
    if (s.monitor 0).above s.overdrawThreshold then
      if 3 ≤ s.stim.overdraw + 1 then s.applySafe.abortUnit 903
      else s.modStim (fun m => { m with overdraw := m.overdraw + 1 })
    else s.modStim (fun m => { m with overdraw := 0 })
  else s

/-- A LEVEL acquisition on cell 0 or 1 armed before this instant completes with its reading (R84). -/
def State.levelInstant (s : State) : State :=
  match s.sense.slot with
  | some a =>
    match a.source, a.phase with
    | .level c, .awaitingReading =>
      if a.armTick < s.now then
        if a.forNest then s.emptySlot.contactReading (s.monitor c) else s.emptySlot.handReading (s.monitor c)
      else s
    | _, _ => s
  | none => s

/-- The contact check takes the first monitor reading after its wait (R29); the one of the very tick at which the wait
ended is not after it, whichever event came first (assumption 48). -/
def State.contactInstant (s : State) : State :=
  match s.nest.contact with
  | .monitor since =>
    if since < s.now then
      s.contactReading (s.monitor (((slotGet s.plan.pairs s.nest.position).map (·.cell)).getD 0))
    else s
  | _ => s

/-- A reading instant (R78), its blocks in the order of assumption 16. -/
def State.readingInstant (s : State) : State :=
  let t := s.formBackground
  let u := [0, 1, 2, 3].foldl State.flagInstant t
  u.overdrawCheck.levelInstant.contactInstant

/-! ## Acquisitions that complete (R83, R85 to R87) -/

/-- An acquisition completes: the slot is emptied and its party takes the reading (R82). -/
def State.completeAcquisition (s : State) (a : Acquisition) (rd : Reading) : State :=
  if a.forNest then s.emptySlot.contactReading rd else s.emptySlot.handReading rd

/-- An edge on timing cell `c` (4..7): the level is taken, the conditions follow, and an acquisition on
the cell that was armed before this event sees the edge (R80, R85, R87). The edge is kept, judged by the selection
in force (R77), for a COUNT armed later at its tick, by its own event or by another (R87). -/
def State.timingEdge (s : State) (i : Nat) : State :=
  let c := i + 4
  let rising := (vecGet s.sense.timing i (.at false)).raw
  let t := s.modSense (fun x =>
    { x with timing := vecMod x.timing i Deglitch.take,
             edges := vecMod x.edges i (fun e => e.push s.now (s.plan.cellSetup c).edge rising) })
  let r := t.sourceChanged c
  match r.1.sense.slot with
  | some a =>
    if a.timingCell = some c then
      let e := a.edge (r.1.plan.cellSetup c).edge rising r.1.now
      match e.2 with
      | some rd => r.1.completeAcquisition e.1 rd
      | none => State.offer s.engine (r.1.modSense (fun x => { x with slot := some e.1 }), r.2)
    else State.offer s.engine r
  | none => State.offer s.engine r

/-- A raw level on timing input `i`: the deglitch starts or stops, and one of 0 takes a change at once (R80); the raw
level already held is no change, and a deglitch that runs goes on under its own time (R77, assumption 17). -/
def State.timingInput (s : State) (i : Nat) (b : Bool) : State :=
  let ticks := timingTicks (s.plan.cellSetup (i + 4))
  if b = (vecGet s.sense.timing i (.at false)).raw then s
  else
    let t := s.modSense (fun x => { x with timing := vecMod x.timing i (fun d => d.input b s.now ticks) })
    if ticks = 0 ∧ (vecGet t.sense.timing i (.at false)).endsAt.isSome = true then t.timingEdge i else t

/-- Logic cell `i` (8..11) takes its raw level (R81). -/
def State.logicTaken (s : State) (i : Nat) : State :=
  let t := s.modSense (fun x => { x with logic := vecMod x.logic i Deglitch.take })
  State.offer s.engine (t.sourceChanged (i + 8))

/-- A raw level on logic input `i`, as on a timing input (R77, R81, assumption 17). -/
def State.logicInput (s : State) (i : Nat) (b : Bool) : State :=
  let ticks := logicTicks (s.plan.cellSetup (i + 8))
  if b = (vecGet s.sense.logic i (.at false)).raw then s
  else
    let t := s.modSense (fun x => { x with logic := vecMod x.logic i (fun d => d.input b s.now ticks) })
    if ticks = 0 ∧ (vecGet t.sense.logic i (.at false)).endsAt.isSome = true then t.logicTaken i else t

/-- The deglitched level of the timing cell an acquisition measures on. -/
def State.acquisitionLevel (s : State) (a : Acquisition) : Bool :=
  match a.timingCell with
  | some c => (vecGet s.sense.timing (c - 4) (.at false)).level
  | none => false

/-- A gate times out (R86). -/
def State.gateTimeout (s : State) (dt : Nat) : State :=
  match s.sense.slot with
  | some a =>
    match a.timeoutTick with
    | some t => (s.elapseTo dt t).completeAcquisition a (a.timeoutReading (s.acquisitionLevel a))
    | none => s.elapse dt
  | none => s.elapse dt

/-- A COUNT interval ends (R87). -/
def State.countEnds (s : State) (dt : Nat) : State :=
  match s.sense.slot with
  | some a =>
    match a.countEnd with
    | some t => (s.elapseTo dt t).completeAcquisition a a.countReading
    | none => s.elapse dt
  | none => s.elapse dt

/-- The Nth sample of a LEVEL acquisition has been taken (R83). -/
def State.levelEnds (s : State) : State :=
  match s.levelComplete with
  | some (a, rd) => s.completeAcquisition a rd
  | none => s

/-! ## Qualify timers (R96) -/

/-- The qualify timer of condition `k` expires: the qualified state takes the raw value and the event
is offered (R96, R98). -/
def State.qualifyExpires (s : State) (k dt : Nat) : State :=
  match (vecGet s.sense.conditions k ⟨false, none⟩).timer with
  | none => s.elapse dt
  | some t =>
    let u := s.elapseTo dt t
    let q := !(vecGet s.sense.conditions k ⟨false, none⟩).qualified
    let v := u.modSense (fun x => { x with conditions := vecMod x.conditions k (fun _ => ⟨q, none⟩) })
    State.offer s.engine (v, [(k, q)])

end Sys2Proof.Machine
end

