-- ==== Sys2Proof/Machine/Handler.lean ====
section
/-! DEFINITION. The twelve commands of the line node as their owners carry them out, and the Command
Handler that takes them and places their replies (R2 to R5, R39, R40, R100, R101, R121 to R125, R138
to R142, R182, R189, R196). -/

namespace Sys2Proof.Machine

/-! ## Replies (R140, R141) -/

/-- What the taking of a command leads to: a reply, or work that goes on with none yet (PLAN SEAL), or
the ACCEPT of a STATION RESET (R139, R142). -/
inductive Taken where
  | reply (b : TxBody)
  | working
  | resetting (b : TxBody)
deriving DecidableEq, Repr

/-- The tag of a command, its first byte (R195). -/
def Command.tag (c : Command) : Tag := c.payload.getD 0 0

/-- REFUSE with its triple (R141). -/
def Command.refuse (c : Command) (cls code qualifier : Nat) : Taken := .reply (.refuse c.kind c.tag cls code qualifier)

/-- ACCEPT with its result field (R141, R196). -/
def Command.accept (c : Command) (result : Nat) : Taken := .reply (.accept c.kind c.tag result)

/-- A joined station: JOINED or FAILED-JOINED (2.7). -/
def State.joined (s : State) : Bool := s.join.state == .joined || s.join.state == .failedJoined

/-! ## Plan commands (R2 to R5) -/

/-- PLAN BEGIN (R2); every condition of the plan that ends falls to FALSE (R97). -/
def State.takePlanBegin (s : State) (c : Command) : State × Taken :=
  let id := word16 c.payload 1
  if !s.joined then (s, c.refuse 1 1 0)
  else if s.openRecord.isSome then (s, c.refuse 3 1 0)
  else if id = 0 then (s, c.refuse 2 3 1)
  else ((s.modPlan (fun p => p.begin id)).clearConditions, c.accept 0)

/-- PLAN RECORD (R3, R4). A plan id that is not there whole is no plan's id (assumption 21). -/
def State.takePlanRecord (s : State) (c : Command) : State × Taken :=
  let id := if c.payload.length < 3 then 0 else word16 c.payload 1
  let kind := byteAt c.payload 3
  let slot := word16 c.payload 4
  let fields := c.payload.drop 6
  if !s.joined then (s, c.refuse 1 1 0)
  else match s.plan.recordRefusal id kind slot fields with
    | some (code, q) => (s, c.refuse 2 code q)
    | none =>
      match parseRecord kind slot fields with
      | some r => (s.modPlan (fun p => p.write slot r), c.accept 0)
      | none => (s, c.refuse 2 4 0)

/-- PLAN SEAL (R5): the validation ends at the next advance of the millisecond clock. -/
def State.takePlanSeal (s : State) (c : Command) : State × Taken :=
  if !s.joined then (s, c.refuse 1 1 0)
  else if s.plan.state ≠ .loading then (s, c.refuse 2 1 0)
  else if s.plan.id ≠ some (word16 c.payload 1) then (s, c.refuse 2 2 0)
  else
    (s.modHandler (fun h =>
      { h with job := some ⟨c.tag, byteAt c.payload 3, word16 c.payload 4, s.now⟩ }), .working)

/-- The next advance of the millisecond clock after tick `t` (R5). -/
def State.nextMs (s : State) (t : Nat) : Nat :=
  let c := s.join.clockStart.getD 0
  c + ((t - c) / Config.ticksPerMs + 1) * Config.ticksPerMs

/-- The outcome of a validation (R5): a sealed plan clears the Capture Table (R73) and gives every
condition its raw value (R97). -/
def State.sealOutcome (s : State) (j : SealJob) : State × TxBody :=
  let failure := s.plan.validate j.steps j.records
  let t := s.modPlan (fun p => p.afterValidation j.steps failure)
  match failure with
  | some (code, q) => (t, .refuse 34 j.tag 2 code q)
  | none => ((t.modCapture (fun _ => CaptureTable.reset)).initConditions, .accept 34 j.tag 0)

/-! ## Unit commands (R100, R101, R121) -/

/-- The serial of a UNIT START: its length byte and its characters (R195). -/
def Command.serial (c : Command) : List Byte := (c.payload.drop 4).take (byteAt c.payload 3)

/-- Whether the serial holds 1..16 characters, each of code 32..126 (R100). -/
def Command.serialOk (c : Command) : Bool :=
  decide (1 ≤ byteAt c.payload 3) && decide (byteAt c.payload 3 ≤ 16) &&
  c.serial.all (fun b => decide (32 ≤ b.toNat) && decide (b.toNat ≤ 126))

/-- The checks of UNIT START in their order (R100): class, code and qualifier of the first that fails. -/
def State.startRefusal (s : State) (c : Command) : Option (Nat × Nat × Nat) :=
  let fixture := s.pins.fixture.toNat
  if s.join.state = .failedJoined then some (1, 2, s.join.qualifier)
  else if s.join.state ≠ .joined then some (1, 1, 0)
  else if word16 c.payload 1 = 0 then some (2, 3, 1)
  else if !c.serialOk then some (2, 3, 2)
  else if s.view.halted then some (5, 1, 0)
  else if s.view.lineStopped then some (4, 1, 0)
  else if s.openRecord.isSome then some (3, 1, 0)
  else if s.engine.state = .ending then some (3, 2, 0)
  else if 4 ≤ s.store.records.length then some (6, 1, 0)
  else if s.plan.state ≠ .sealed then some (1, 3, 0)
  else if s.plan.id ≠ some (word16 c.payload 1) then some (2, 2, 0)
  else if s.nest.state ≠ .loaded then some (1, 4, 0)
  else if !s.nest.guardClosed.level then some (1, 5, 0)
  else if fixture = 0 ∨ fixture = 63 then some (1, 6, fixture)
  else none

/-- The nest accepts a unit on the fixture read (R25, steps 1 to 3). -/
def State.acceptFixture (s : State) (fixture : Nat) : State :=
  let t :=
    if s.nest.fixture = some fixture then s
    else (s.modNest (fun n => { n with wear := 0, counter := 0, forced := true })).resetHistory
  t.modNest (fun n => { n with fixture := some fixture, reseat := false })

/-- Open a unit record with the next sequence number (R101, R122). -/
def State.openUnit (s : State) (serial : List Byte) (planId fixture : Nat) : State :=
  let seq := s.store.nextSequence
  s.modStore (fun v =>
    { records := v.records ++ [⟨seq, serial, planId, fixture, s.nest.wear, s.ms, none, .unfinished, none, []⟩],
      counter := seq + 1 })

/-- UNIT START (R100, R101): the record is open before the nest clamps, so that a clamp already closed
finds it (R25). -/
def State.takeUnitStart (s : State) (c : Command) : State × Taken :=
  match s.startRefusal c with
  | some (cls, code, q) => (s, c.refuse cls code q)
  | none =>
    let fixture := s.pins.fixture.toNat
    (((s.acceptFixture fixture).openUnit c.serial (word16 c.payload 1) fixture).enterClamping,
     c.accept s.store.nextSequence.toNat)

/-- UNIT ABORT (R121). -/
def State.takeUnitAbort (s : State) (c : Command) : State × Taken :=
  if !s.joined then (s, c.refuse 1 1 0)
  else match s.openRecord with
    | none => (s, c.refuse 1 7 0)
    | some r =>
      if r.seq.toNat ≠ word16 c.payload 1 then (s, c.refuse 2 9 0) else (s.abortUnit 909, c.accept 0)

/-! ## Records and history (R123 to R125, R196) -/

/-- The code of a verdict (R196). -/
def verdictCode : Verdict → Nat
  | .unfinished => 0 | .pass => 1 | .fail => 2 | .aborted => 3

/-- The code of a final outcome (R196). -/
def outcomeCode : StepOutcome → Nat
  | .pass => 0 | .fail => 1 | .noSignal => 2 | .error => 3

/-- The byte of an annotation set (R196). -/
def Annotations.byte (a : Annotations) : Nat :=
  flagBit a.inexact 1 + flagBit a.saturated 2 + flagBit a.still 4 + flagBit a.unsettled 8
    + flagBit a.marginalExhausted 16 + flagBit a.stimulusLate 32 + flagBit a.clamped 64 + flagBit a.overrange 128

/-- The nine bytes of a result (R196). -/
def StepResult.bytes (r : StepResult) : List Byte :=
  [toByte r.step, toByte (r.attempts + outcomeCode r.outcome * 8 + flagBit r.reading.isSome 32), toByte r.notes.byte]
    ++ bigEndianInt 5 (r.reading.getD 0) ++ [toByte ((r.partCode.getD 900) - 900)]

/-- The header of a record, segment 0 (R123, R196). -/
def UnitRecord.header (r : UnitRecord) : List Byte :=
  [0, toByte (flagBit r.results.isEmpty 1 + verdictCode r.verdict * 2)]
    ++ bigEndian 2 r.seq.toNat ++ bigEndian 2 r.planId ++ [toByte r.fixture] ++ bigEndian 3 r.wear
    ++ bigEndian 4 r.start.toNat ++ bigEndian 4 ((r.finish.map (·.toNat)).getD 0)
    ++ bigEndian 2 (r.firstFail.getD 0) ++ [toByte r.results.length]

/-- Segment k of 1 or more (R123, R196). -/
def UnitRecord.segment (r : UnitRecord) (k : Nat) : List Byte :=
  let carried := (r.results.drop (2 * k - 2)).take 2
  [toByte k, toByte (flagBit (decide (r.results.length ≤ 2 * k)) 1 + carried.length * 8)]
    ++ carried.flatMap StepResult.bytes ++ List.replicate (9 * (2 - carried.length)) 0 ++ [0]

/-- The record with a sequence number. -/
def State.recordOf (s : State) (seq : Nat) : Option UnitRecord := s.store.records.find? (fun r => r.seq.toNat == seq)

/-- VERDICT QUERY (R123). -/
def State.takeVerdictQuery (s : State) (c : Command) : State × Taken :=
  if !s.joined then (s, c.refuse 1 1 0)
  else match s.recordOf (word16 c.payload 1) with
    | none => (s, c.refuse 2 9 0)
    | some r =>
      let k := byteAt c.payload 3
      (s, .reply (.verdictSegment c.tag (if k = 0 then r.header else r.segment k)))

/-- VERDICT RELEASE (R124). -/
def State.takeVerdictRelease (s : State) (c : Command) : State × Taken :=
  if !s.joined then (s, c.refuse 1 1 0)
  else match s.recordOf (word16 c.payload 1) with
    | none => (s, c.refuse 2 9 0)
    | some r =>
      if r.isOpen then (s, c.refuse 3 1 0)
      else (s.modStore (fun v => { v with records := v.records.filter (fun x => x.seq != r.seq) }), c.accept 0)

/-- VOID UNIT (R125). -/
def State.takeVoidUnit (s : State) (c : Command) : State × Taken :=
  if !s.joined then (s, c.refuse 1 1 0) else (s.popHistory, c.accept 0)

/-! ## Nest commands (R39, R40) -/

/-- CLEAR FAULT (R39): the FAULT prompt is ended and the nest leaves FAULT. -/
def State.takeClearFault (s : State) (c : Command) : State × Taken :=
  if !s.joined then (s, c.refuse 1 1 0)
  else if s.nest.state ≠ .fault then (s, c.refuse 1 11 0)
  else ((s.endNeed .nest).faultCleared, c.accept 0)

/-- CLEAR SUSPECT (R40). -/
def State.takeClearSuspect (s : State) (c : Command) : State × Taken :=
  if !s.joined then (s, c.refuse 1 1 0) else (s.resetHistory, c.accept 0)

/-! ## STATUS QUERY (R182, R196) -/

/-- The code of a join state in a report; the two states that take no command have none and read 0 (R196). -/
def joinCode : JoinState → Nat
  | .selfCheck => 0 | .announcing => 1 | .awaitingParameters => 2 | .rebuilding => 3
  | .joined => 4 | .failedJoined => 5 | .badAddress => 0 | .conflict => 0

/-- The code of a nest state (R196). -/
def nestCode : NestState → Nat
  | .empty => 0 | .loaded => 1 | .clamping => 2 | .clamped => 3 | .contacting => 4 | .ready => 5
  | .testing => 6 | .releasing => 7 | .unload => 8 | .held => 9 | .fault => 10

/-- The code of an engine state (R196). -/
def engineCode : EngineState → Nat
  | .idle => 0 | .applying => 1 | .dwell => 2 | .acquiring => 3 | .awaitResource => 4
  | .awaitResult => 5 | .awaitAnswer => 6 | .ending => 7

/-- The code of a plan state (R196). -/
def planCode : PlanState → Nat
  | .empty => 0 | .loading => 1 | .sealed => 2 | .invalid => 3

/-- 0 NONE, 1 WAITING, 2 HOLDER: the station's place at PANEL or GANTRY (R196). -/
def State.placeCode (s : State) (r : Resource) : Nat :=
  if !s.view.active then 0 else if s.holds r then 2 else if s.shows r then 1 else 0

/-- The fields of a STATUS REPORT from byte 2 (R182, R196). -/
def State.statusFields (s : State) : List Byte :=
  let act := s.view.active
  [toByte (joinCode s.join.state), toByte s.join.qualifier, toByte (nestCode s.nest.state)]
    ++ bigEndian 2 (s.nest.fault.getD 0)
    ++ [toByte (flagBit s.nest.suspect 1 + flagBit s.view.lineStopped 2 + flagBit s.view.halted 4
          + flagBit (act && s.view.window.isSome) 8 + flagBit s.openRecord.isSome 16
          + flagBit (act && s.entryNow.isSome) 32)]
    ++ bigEndian 3 s.nest.wear ++ [toByte (engineCode s.engine.state), toByte s.engine.step]
    ++ bigEndian 2 ((s.openRecord.map (·.seq.toNat)).getD 0) ++ [toByte s.store.records.length,
        toByte (planCode s.plan.state)]
    ++ bigEndian 2 (s.plan.id.getD 0) ++ [toByte s.view.streak, toByte (s.placeCode .panel + s.placeCode .gantry * 4)]
    ++ bigEndian 2 (if act then s.heldNow else 0)

/-- STATUS QUERY (R182): the report changes nothing. -/
def State.takeStatusQuery (s : State) (c : Command) : State × Taken :=
  (s, .reply (.statusReport c.tag s.statusFields))

/-- STATION RESET (R189): the warm reset comes at the report of this ACCEPT. -/
def State.takeStationReset (s : State) (c : Command) : State × Taken :=
  if !s.joined then (s, c.refuse 1 1 0) else (s, .resetting (.accept c.kind c.tag 0))

/-! ## The Command Handler (R138 to R142) -/

/-- Hand a command to its owner (R139). -/
def State.handToOwner (s : State) (c : Command) : State × Taken :=
  match c.kind with
  | 32 => s.takePlanBegin c
  | 33 => s.takePlanRecord c
  | 34 => s.takePlanSeal c
  | 35 => s.takeUnitStart c
  | 36 => s.takeUnitAbort c
  | 37 => s.takeVerdictQuery c
  | 38 => s.takeVerdictRelease c
  | 39 => s.takeVoidUnit c
  | 40 => s.takeStatusQuery c
  | 41 => s.takeClearFault c
  | 42 => s.takeClearSuspect c
  | _ => s.takeStationReset c

/-- A taken command after the length check (R141). -/
def State.takeCommand (s : State) (c : Command) : State × Taken :=
  if c.kind ≠ 33 ∧ c.payload.length ≠ commandLength c.kind then (s, c.refuse 2 8 0) else s.handToOwner c

/-- Place a reply in the transmit queue, or in the reply slot when the share is full; `sent` is the
state of a handler whose reply is queued, `held` that of one whose reply waits (R139, R142). -/
def State.placeReply (s : State) (b : TxBody) (sent held : HandlerState) : State :=
  if txRoom s.rbi.queue .handler then (s.send b).modHandler (fun h => { h with state := sent })
  else s.modHandler (fun h => { h with state := held, slot := some b })

/-- What the handler does with the outcome of a taking (R139, R142). -/
def State.concludeTaking (r : State × Taken) : State :=
  match r.2 with
  | .reply b => r.1.placeReply b .ready .replyWaiting
  | .working => r.1.modHandler (fun h => { h with state := .carryingOut })
  | .resetting b => r.1.placeReply b .resetting .resetting

/-- In READY the handler takes the oldest command; `n` bounds the commands taken at one event (R139). -/
def State.takeCommands : Nat → State → State
  | 0, s => s
  | n + 1, s =>
    match s.handler.state, s.handler.queue with
    | .ready, c :: cs =>
      State.takeCommands n
        (State.concludeTaking ((s.modHandler (fun h => { h with queue := cs })).takeCommand c))
    | _, _ => s

/-- The commands a handler in READY takes at this event. -/
def State.handlerTakes (s : State) : State := s.takeCommands (Config.commandQueueSize + 1)

/-- A delivered command joins the queue and is taken at once by a handler in READY (R138, R139). -/
def State.queueCommand (s : State) (c : Command) : State :=
  (s.modHandler (fun h => { h with queue := h.queue ++ [c] })).handlerTakes

/-- A report for one of the handler's frames has freed its share: a waiting reply is queued (R140). -/
def State.handlerReport (s : State) : State :=
  match s.handler.slot, s.handler.state with
  | some b, .replyWaiting =>
    ((s.send b).modHandler (fun h => { h with state := .ready, slot := none })).handlerTakes
  | some b, _ => (s.send b).modHandler (fun h => { h with slot := none })
  | none, _ => s

/-- SEAL VALIDATION ends: the reply is placed and the handler goes on (R5, R139). -/
def State.sealEnds (s : State) : State :=
  match s.handler.job with
  | some j =>
    let r := (s.modHandler (fun h => { h with job := none })).sealOutcome j
    (r.1.placeReply r.2 .ready .replyWaiting).handlerTakes
  | none => s

end Sys2Proof.Machine
end

