-- ==== Sys2Proof/Machine/Rack.lean ====
section
/-! DEFINITION. What a frame on the rack bus does at the station: routing, the view frames with what
the Claim Unit and the other blocks do at them, the reports to producers, the resets, CONFLICT, and
the reactions that close every event (R128 to R189). -/

namespace Sys2Proof.Machine

/-! ## The end of every event -/

/-- The grant of BUDGET, reported once for each want: the waiting request is applied (R53, R157). -/
def State.grantBudget (s : State) : State :=
  if s.stim.app = .awaitingBudget ∧ s.view.window = none ∧ s.claims.silent = false
      ∧ s.claims.budget.reported = false ∧ s.entryNow = none ∧ s.claims.budget.want ≤ s.heldNow then
    let t := s.modClaims (fun c => { c with budget := { c.budget with reported := true } })
    match t.stim.request with
    | some (scene, replace) => State.report (t.applyScene scene replace)
    | none => t
  else s

/-- The surplus is back at the first delivery that shows h equal to W with no entry (R156); a held
request is evaluated, or waits as DEFERRED while the window is OPEN (R54). -/
def State.surplusReturned (s : State) : State :=
  if s.stim.app = .returningSurplus ∧ s.heldNow = s.claims.budget.want ∧ s.entryNow = none then
    if s.view.window.isSome ∧ s.stim.request.isSome = true then s.modStim (fun m => { m with app := .deferred })
    else State.report s.evaluateHeld
  else s

/-- A frame the join machine or the Rack View owes is queued once its share has room (R151, R187). -/
def State.sendOwed (s : State) : State :=
  let t :=
    if s.join.attentionDue && txRoom s.rbi.queue .joinView then
      (s.send .attention).modJoin (fun j => { j with attentionDue := false })
    else s
  match t.view.window with
  | some o =>
    if t.join.rebuildEndDue && txRoom t.rbi.queue .joinView then
      (t.send (.rebuildEnd o)).modJoin (fun j => { j with rebuildEndDue := false })
    else t
  | none => t.modJoin (fun j => { j with rebuildEndDue := false })

/-- What follows at the end of every event: grants, the return of a surplus (at deliveries), the exit
from ENDING, the checks of the Claim Unit, the next prompt, owed frames, the port's arbiter and the
start of a frame (R52, R118, R128, R151, R155, R157, R166). The view, the plan and the waiting commands
stay as they are. -/
def State.finish (delivery : Bool) (s : State) : State :=
  let a := s.grantBudget
  let b := if delivery then a.surplusReturned else a
  (((b.grantGantry.grantPanel.endingExit.claimCheck).startPanel.claimCheck).sendOwed.arbiter).startBus

/-! ## Resets and CONFLICT (R137, R142, R183, R188, R189) -/

/-- The station right after a cold reset with the given pins and part revision (R183, R128): straps
outside 1..24 give BAD ADDRESS, where the address register, to which the spec gives no value, is 0 (assumption 3). -/
def State.cold (p : ResetPins) (revision : Byte) (pending : List Instr) : State :=
  let good := decide (1 ≤ p.straps.toNat) && decide (p.straps.toNat ≤ 24)
  { now := 0
    pins := ⟨p.straps, p.fixture, revision⟩
    rbi := ⟨if good then p.straps.toNat else 0, if good then .settling else .silent, 0, [], false⟩
    handler := ⟨.ready, [], none, none⟩
    view := View.reset
    claims := Claims.cleared 0
    plan := Plan.reset
    nest := Nest.reset p
    stim := Stim.reset
    net := if good then { Net.reset with port := .loopback, request := some .loopback } else Net.reset
    capture := CaptureTable.reset
    sense := Sense.reset p
    engine := Engine.reset
    store := ⟨[], 0⟩
    history := History.reset
    prompts := ⟨[], none, none, 0⟩
    join := ⟨if good then .selfCheck else .badAddress, 0, 0, none, none, none, good, false, none, false⟩
    pending := pending }

/-- The queues of the RBI and the Command Handler emptied without reports (R137, R142). -/
def State.emptyQueues (s : State) : State :=
  (s.modRbi (fun r => { r with queue := [] })).modHandler (fun _ => ⟨.ready, [], none, none⟩)

/-- Entry to CONFLICT (R137, R188; the order, and the engine IDLE from ENDING too, by assumption 32). -/
def State.enterConflict (s : State) : State :=
  let t := (s.applySafe.abortUnit 904).emptyQueues
  let u := (t.claimsReset.promptsConflict).modRbi (fun r => { r with bus := .silent, rejectDriven := false })
  let v := u.modJoin (fun j =>
    { j with state := .conflict, announce := none, rebuildTimer := none, attentionDue := false, rebuildEndDue := false })
  v.modEngine (fun e => { e with state := .idle })

/-- The warm reset (R189 and the rules it names; the order by assumption 32). -/
def State.warmReset (s : State) : State :=
  let t := ((s.applySafe.abortUnit 910).clearClamped.netWarmReset.emptySlot).emptyQueues
  let u := ((t.modEngine (fun _ => Engine.reset)).modCapture (fun _ => CaptureTable.reset)).modPlan Plan.warmReset
  let v := u.clearConditions.claimsReset.promptsDrop.claimsReset.requeuePrompt
  (v.modJoin (fun j =>
    { j with state := .rebuilding, rebuildTimer := none, rebuildEndDue := false, attentionDue := false })).send .attention

/-! ## The self-check (R184) -/

/-- Whether output `c`, as read back, differs from its SAFE level (R184). -/
def State.readsOther (s : State) (outputs : Vector (BitVec 12) 16) (c : Nat) : Bool :=
  (vecGet outputs c 0).toNat != s.safeOutput c

/-- Whether cell `c` reads other than 0 from its latest samples, whatever the marks of the reading (R184). -/
def State.cellNonZero (s : State) (c : Nat) : Bool :=
  match backgroundReading c (s.plan.cellSetup c) (vecGet s.sense.samples c []) with
  | .value v _ _ _ => v != 0
  | .noSignal => true

/-- The qualifier and detail of the self-check (R184), `outputs` being the outputs as read back. -/
def State.selfCheck (s : State) (outputs : Vector (BitVec 12) 16) : Nat × Nat :=
  match (List.range 16).find? (s.readsOther outputs) with
  | some c => (1, c)
  | none =>
    match (List.range 4).find? s.cellNonZero with
    | some c => (2, c)
    | none => if s.nest.conflict then (3, 0) else if s.net.port = .loopback then (4, 0) else (0, 0)

/-- The frame that announces the station (R185). -/
def State.announcement (s : State) : TxBody :=
  .addressTaken s.join.qualifier s.join.detail s.pins.revision

/-- SELF-CHECK ends (R184, R185): the judgement, the state of the nest, and ANNOUNCING unless in CONFLICT,
where the qualifier and detail judged are written all the same (R188, assumption 60). -/
def State.selfCheckEnds (s : State) (outputs : Vector (BitVec 12) 16) : State :=
  let q := s.selfCheck outputs
  let t := (s.modJoin (fun j => { j with checking := false, qualifier := q.1, detail := q.2 })).deriveNest
  if s.join.state = .selfCheck then
    let u := t.modJoin (fun j => { j with state := .announcing })
    u.send u.announcement
  else t

/-! ## RACK PARAMETERS (R186) -/

/-- Whether a frame is an ADDRESS TAKEN. -/
def isAddressTaken (b : TxBody) : Bool := match b with | .addressTaken .. => true | _ => false

/-- Whether a frame is a REBUILD END. -/
def isRebuildEnd (b : TxBody) : Bool := match b with | .rebuildEnd _ => true | _ => false

/-- Queue ATTENTION, or owe it while the share is full (R187). -/
def State.sendAttention (s : State) : State :=
  if txRoom s.rbi.queue .joinView then s.send .attention else s.modJoin (fun j => { j with attentionDue := true })

/-- The clamp timer of a nest still in RELEASING starts with the clamp timeout (R22). -/
def State.startLateClamp (s : State) : State :=
  if s.nest.state = .releasing ∧ s.nest.clampTimer = none then s.setClampTimer s.clampExpiry else s

/-- RACK PARAMETERS accepted (R186). -/
def State.acceptParameters (s : State) (p : List Byte) : State :=
  let raw := rawParams p
  let params := legalParams raw
  let t := (s.modJoin (fun j => { j with params := some params, announce := none, state := .rebuilding })).modView
    (fun v => { v with total := params.total })
  let u := (t.withdraw isAddressTaken).send (.accept 20 (p.getD 0 0) (if params = raw then 0 else 1))
  u.sendAttention.startLateClamp

/-! ## Views of the other blocks at a view frame -/

/-- The gantry is reported lost (R160, R112); in AWAIT-RESOURCE no attempt ends and it is claimed again (assumption
65). -/
def State.gantryLost (s : State) : State :=
  let t := s.cancelMeasure
  if s.engine.state = .awaitResult then t.lightError 904 else t

/-- The budget is reported lost (R160, R55). -/
def State.budgetLost (s : State) : State := s.applySafe.abortUnit 904

/-- ATTENTION delivered (R149, R151, R153, R158, R167). -/
def State.onAttention (s : State) (src : Nat) : State :=
  let own := src == s.rbi.address
  let t := s.modView (fun v => v.attention src)
  let u := if own then t.modClaims (fun c => { c with silent := false }) else t
  let w := ((u.restate s.view).promptsAttention).withdraw isRebuildEnd
  w.modJoin (fun j =>
    { j with rebuildEndDue := false,
             rebuildTimer := some (s.after (if own then Config.rebuildOwnMs else Config.rebuildOtherMs)) })

/-- The join is complete at the first close after the own ATTENTION (R187): the clock starts if it is
not counting (R183). -/
def State.completeJoin (s : State) : State :=
  if s.join.state = .rebuilding ∧ s.claims.silent = false then
    s.modJoin (fun j =>
      { j with state := if j.qualifier = 0 then .joined else .failedJoined,
               clockStart := some (j.clockStart.getD s.now) })
  else s

/-- The window has closed (R151, R152, R160, R162, R167, R187): losses, the requests and prompts that
waited, the deferred scene. -/
def State.onClose (s : State) : State :=
  let lostPanel := s.lostAtClose .panel
  let lostGantry := s.lostAtClose .gantry
  let lostBudget := s.budgetLostAtClose
  let t := ((s.modJoin (fun j => { j with rebuildTimer := none, rebuildEndDue := false })).withdraw isRebuildEnd).modClaims
    (fun c => c.clearRecords.forgetOpening)
  let u := t.completeJoin
  let v := if lostBudget then u.budgetLost else u
  let w := (if lostGantry then v.gantryLost else v).releaseHeldBack
  let x := if lostPanel then w.promptsLost else w.promptsClose
  if x.stim.app = .deferred then State.report x.evaluateHeld else x

/-- REBUILD END delivered (R152). -/
def State.onRebuildEnd (s : State) (opener : Nat) : State :=
  if s.view.closes opener then (s.modView (fun v => v.rebuildEnd opener)).onClose else s

/-- FORCE RELEASE delivered (R148, R160); of a station named with W above 0 the budget counts as lost, one that only
waits for budget included (assumption 59). -/
def State.onForceRelease (s : State) (st : Nat) : State :=
  let t := s.modView (fun v => v.force st)
  if st = s.rbi.address then
    let lostPanel := s.claims.panel.want && (s.holds .panel || s.claims.panel.record)
    let lostGantry := s.claims.gantry.want && (s.holds .gantry || s.claims.gantry.record)
    let u := (t.withdrawEmptyReleases).modClaims Claims.clearRecords
    let v := if s.claims.budget.want ≠ 0 then u.budgetLost else u
    let w := if lostGantry then v.gantryLost else v
    if lostPanel then w.promptsLost else w
  else t

/-- RACK HALT delivered (R179, R133, R161, R173, R36). -/
def State.onHalt (s : State) : State :=
  let hadPrompt := (s.entryFrom .nest).isSome
  let t := ((s.modView View.halt).modRbi (fun r => { r with queue := purgeClass2 r.queue })).claimsHalt.promptsDrop
  let u := t.applySafe.nestHalt.abortUnit 905
  if hadPrompt then u.requeuePrompt else u

/-- LINE RESUME delivered (R181). -/
def State.onResume (s : State) : State := (s.modView View.resume).nestResume

/-- A view frame at an ACTIVE view (R144). -/
def State.viewFrame (s : State) (f : Frame) : State :=
  let src := f.src.toNat
  let a := word16 f.payload 1
  let res := byteAt f.payload 0
  match f.kind.toNat with
  | 2 => s.onAttention src
  | 3 => s.onRebuildEnd (byteAt f.payload 0)
  | 4 => s.onHalt
  | 5 => s.onResume
  | 6 => s.onForceRelease (byteAt f.payload 0)
  | 8 => s.modView (fun v => v.holding src res a)
  | 9 => s.modView (fun v => v.release src res a)
  | 10 => s.modView (fun v => v.claim src res a)
  | 11 => s.modView (fun v => v.notice ((s.join.params.map (·.streakLimit)).getD 0) (byteAt f.payload 0))
  | _ => s

/-- Whether the view applies a view frame: ACTIVE, or the station's own ATTENTION (R144). A view that a warm reset has
left ACTIVE applies a RACK HALT before the own ATTENTION (assumption 51). -/
def State.viewTakes (s : State) (f : Frame) : Bool :=
  s.view.active || (f.kind.toNat == 2 && f.src.toNat == s.rbi.address)

/-! ## Panel and gantry frames (R163, R168) -/

/-- PROMPT ANSWER (R168). -/
def State.onPromptAnswer (s : State) (p : List Byte) : State :=
  let kind := byteAt p 1
  let value := word32 p 2
  match s.answeredEntry (p.getD 0 0) kind value with
  | none => s
  | some e =>
    let t := s.completePrompt e.source
    match e.source, e.auto with
    | .step, _ => t.judgeAnswer kind value
    | .nest, .partRemoved => t
    | .nest, _ => if t.nest.state = .fault then t.faultCleared else t

/-- MEASURE RESULT (R163). -/
def State.onMeasureResult (s : State) (p : List Byte) : State :=
  match s.claims.request with
  | .outstanding tag _ =>
    if tag = p.getD 0 0 then
      let t := s.modClaims (fun c => { c with request := .none })
      match byteAt p 1 with
      | 0 => t.handReading (exactReading (word24 p 2))
      | 1 => if s.engine.state = .awaitResult then t.lightError 912 else t
      | _ => s
    else s
  | _ => s

/-! ## Routing (R136) -/

/-- Whether the length of a frame is that of its kind (R136, R192). -/
def frameLengthOk (f : Frame) : Bool := f.payload.length == kindLength f.kind.toNat

/-- A broadcast frame of a station (R136). -/
def fromStation (f : Frame) : Bool := decide (1 ≤ f.src.toNat) && decide (f.src.toNat ≤ 24) && f.dst == 0

/-- A broadcast frame of one node (R136). -/
def broadcastBy (f : Frame) (src : Nat) : Bool := f.src.toNat == src && f.dst == 0

/-- A view frame that the routing accepts (R136). -/
def isViewFrame (f : Frame) : Bool :=
  match f.kind.toNat with
  | 2 | 3 | 8 | 9 | 10 | 11 => fromStation f
  | 5 | 6 => broadcastBy f 30
  | 4 => broadcastBy f 29 || broadcastBy f 30
  | _ => false

/-- Route a delivered frame (R136). -/
def State.route (s : State) (f : Frame) : State :=
  if isViewFrame f then if frameLengthOk f && s.viewTakes f then s.viewFrame f else s
  else if forCommandQueue s.rbi.address f then s.queueCommand ⟨f.kind.toNat, f.payload⟩
  else if frameLengthOk f then
    match f.kind.toNat with
    | 20 =>
      if broadcastBy f 30 && (s.join.state == .announcing || s.join.state == .awaitingParameters) then
        s.acceptParameters f.payload
      else s
    | 14 => if f.src.toNat = 29 ∧ f.dst.toNat = s.rbi.address then s.onPromptAnswer f.payload else s
    | 17 => if f.src.toNat = 28 ∧ f.dst.toNat = s.rbi.address then s.onMeasureResult f.payload else s
    | _ => s
  else s

/-! ## Reports (R132) -/

/-- A report for one of the Command Handler's frames (R140); for the ACCEPT of a STATION RESET it is the
warm reset (R142). -/
def State.reportReply (s : State) (b : TxBody) : State :=
  match b, s.handler.state with
  | .accept 43 _ _, .resetting => s.warmReset
  | _, _ => s.handlerReport

/-- A REBUILD END is queued again, or owed, while the window is OPEN (R151). -/
def State.offerRebuildEnd (s : State) : State :=
  match s.view.window with
  | some o =>
    if txRoom s.rbi.queue .joinView then s.send (.rebuildEnd o)
    else s.modJoin (fun j => { j with rebuildEndDue := true })
  | none => s

/-- The report "delivered" to the producer of a frame (R132). -/
def State.reportDelivered (s : State) (b : TxBody) : State :=
  match b with
  | .addressTaken .. =>
    if s.join.state = .announcing then
      s.modJoin (fun j => { j with state := .awaitingParameters, announce := some (s.after Config.announceMs) })
    else s
  | .promptPost tag .. => s.postDelivered tag
  | .promptWithdraw tag => s.withdrawDelivered tag
  | .measureRequest tag .. => s.measureDelivered tag
  | .accept .. | .refuse .. | .statusReport .. | .verdictSegment .. => s.reportReply b
  | .attention | .rebuildEnd _ | .holding .. | .release .. | .claim .. | .verdictNotice .. => s

/-- The report "rejected" to the producer of a frame (R132, R151, R156, R162, R167, R170, R176, R185, R187). -/
def State.reportRejected (s : State) (b : TxBody) : State :=
  match b with
  | .addressTaken .. => if s.join.state = .announcing then s.send s.announcement else s
  | .attention => if s.join.state = .rebuilding then s.sendAttention else s
  | .rebuildEnd _ => s.offerRebuildEnd
  | .claim r _ => s.modClaims (fun c => c.setRetry r (some (s.after Config.retryMs)))
  | .holding .. | .release .. => s
  | .verdictNotice .. => s.send b
  | .promptPost tag .. => s.postRejected tag
  | .promptWithdraw tag => s.withdrawRejected tag
  | .measureRequest tag .. => s.measureRejected tag
  | .accept .. | .refuse .. | .statusReport .. | .verdictSegment .. => s.reportReply b

/-! ## The end of a reject slot (R131, R132, R137) -/

/-- The frame of the station that is on the line, with its start and its body (R132). -/
def State.ownOnLine (s : State) : Option (Nat × TxBody) :=
  match s.rbi.bus with
  | .sending start => (onLine? s.rbi.queue).map (fun e => (start, e.body))
  | _ => none

/-- Remove the frame on the line and count recessive bit times again (R128, R132). -/
def State.dropSent (s : State) : State :=
  (s.modRbi (fun r => { r with queue := dropOnLine r.queue })).endFrame

/-- A frame of another node is delivered (R131, R132, R136, R137; assumption 11); one that the station has
not received passes (R128, assumption 52). -/
def State.receive (s : State) (f : Frame) : State :=
  if s.missed (frameTicks f) then s.endFrame
  else if f.src.toNat = s.rbi.address then s.enterConflict
  else if s.refusesFrame f then s.endFrame.modRbi (fun r => { r with rejectDriven := true })
  else s.endFrame.route f

/-- A frame is delivered (R132): the station's own is routed and reported, any other is received; a
SILENT station hears none (assumption 10). -/
def State.delivered (s : State) (dt : Nat) (f : Frame) : State :=
  match s.rbi.bus with
  | .silent => s.elapse dt
  | _ =>
    match s.ownOnLine with
    | some (start, b) =>
      if b.frame s.rbi.address = f then
        (((s.elapseTo dt (start + frameTicks f)).dropSent).route f).reportDelivered b
      else (s.elapse dt).receive f
    | none => (s.elapse dt).receive f

/-- The event of a delivery, with what follows from it. -/
def State.deliver (s : State) (dt : Nat) (f : Frame) : State := (s.delivered dt f).finish true

/-- A frame is rejected (R131, R132): the station's own is reported, any other is discarded, the RBI
having driven the slot where R131 has it (assumption 12). -/
def State.rejected (s : State) (dt : Nat) (line : List Bool) : State :=
  match s.rbi.bus with
  | .silent => s.elapse dt
  | _ =>
    match s.ownOnLine with
    | some (start, b) =>
      ((s.elapseTo dt (start + frameTicks (b.frame s.rbi.address))).dropSent).reportRejected b
    | none =>
      let t := s.elapse dt
      t.endFrame.modRbi (fun r => { r with rejectDriven := t.drivesReject line })

end Sys2Proof.Machine
end

