-- ==== Sys2Proof/Machine/StationCommands.lean ====
section
/-! DEFINITION. COLD_RESET, SELF_CHECK_END and the timers of the join machine and the rebuild window
(R183 to R185, R151). -/

namespace Sys2Proof.Machine

/-- The outcome of every command: the next state (assumption 34). -/
abbrev Result := Host.Outcome State Fault Refusal

/-- COLD_RESET (R183): every block at its cold-reset values, the straps and inputs sampled. -/
def execColdReset (pins : ResetPins) (s : State) : Result :=
  .next (State.cold pins s.pins.revision s.pending)

/-- SELF_CHECK_END (R184), 40 ms after the cold reset, with the outputs as read back. -/
def execSelfCheckEnd (back : ReadBack) (s : State) : Result :=
  .next (if s.join.checking then
           ((s.elapseTo back.ticks Config.selfCheckTicks).selfCheckEnds back.outputs).finish false
         else s.elapse back.ticks)

/-- REBUILD_TIMER_EXPIRY (R151): with the window OPEN a REBUILD END naming the view's opener is queued. -/
def execRebuildTimerExpiry (dt : Nat) (s : State) : Result :=
  .next (match s.join.rebuildTimer with
    | some t => (((s.elapseTo dt t).modJoin (fun j => { j with rebuildTimer := none })).offerRebuildEnd).finish false
    | none => s.elapse dt)

/-- ANNOUNCE_TIMER_EXPIRY (R185): ANNOUNCING again, with a new ADDRESS TAKEN. -/
def execAnnounceTimerExpiry (dt : Nat) (s : State) : Result :=
  .next (match s.join.announce with
    | some t =>
      let u := (s.elapseTo dt t).modJoin (fun j => { j with announce := none })
      (if u.join.state = .awaitingParameters then
        (u.modJoin (fun j => { j with state := .announcing })).send u.announcement
       else u).finish false
    | none => s.elapse dt)

end Sys2Proof.Machine
end

