-- ==== Sys2Proof/Machine/NestCommands.lean ====
section
/-! DEFINITION. The commands at the nest: raw sensor levels, deglitched changes, the clamp timer and
the contact wait (R21 to R35). -/

namespace Sys2Proof.Machine

/-- NEST_SENSOR_INPUT (R21): a raw level, `true` the active one (assumption 55); the deglitched value follows after
20 ms. -/
def execNestSensorInput (dt : Nat) (sensor : Sensor) (level : Bool) (s : State) : Result :=
  let t := s.elapse dt
  .next ((t.modNest (fun n =>
    n.setSensor sensor ((n.sensor sensor).input level t.now (Config.sensorDeglitchMs * Config.ticksPerMs)))).finish false)

/-- The event at which a running deglitch ends, with what follows from it; nothing but the ticks while none runs
(R21, assumption 2). -/
def State.sensorEvent (s : State) (x : Sensor) (dt : Nat) : State :=
  match (s.nest.sensor x).endsAt with
  | some _ => (s.sensorChange x dt).finish false
  | none => s.elapse dt

/-- PART_PRESENT_CHANGE (R24, R33, R35). -/
def execPartPresentChange (dt : Nat) (s : State) : Result := .next (s.sensorEvent .partPresent dt)

/-- CLAMP_CLOSED_CHANGE (R26, R27). -/
def execClampClosedChange (dt : Nat) (s : State) : Result := .next (s.sensorEvent .clampClosed dt)

/-- CLAMP_OPEN_CHANGE (R27, R30, R33). -/
def execClampOpenChange (dt : Nat) (s : State) : Result := .next (s.sensorEvent .clampOpen dt)

/-- GUARD_CHANGE (R34, R37). -/
def execGuardChange (dt : Nat) (s : State) : Result := .next (s.sensorEvent .guardClosed dt)

/-- CLAMP_TIMEOUT (R26, R30, R33): FAULT 906. -/
def execClampTimeout (dt : Nat) (s : State) : Result :=
  .next (match s.nest.clampTimer with
    | some t => ((s.elapseTo dt t).clampTimedOut).finish false
    | none => s.elapse dt)

/-- CONTACT_WAIT_EXPIRY (R29): the reading of the pair is awaited or its acquisition armed. -/
def execContactWaitExpiry (dt : Nat) (s : State) : Result :=
  .next (match s.nest.contact with
    | .waiting t => ((s.elapseTo dt t).contactWaited).finish false
    | _ => s.elapse dt)

end Sys2Proof.Machine
end

