-- ==== Sys2Proof/Machine/SenseCommands.lean ====
section
/-! DEFINITION. The commands at the Sense Unit (R78 to R87, R96). -/

namespace Sys2Proof.Machine

/-- READING_INSTANT (R78): the next instant of the 10 ms rhythm. -/
def execReadingInstant (dt : Nat) (s : State) : Result :=
  let t := roundUp (max (s.now + dt) s.sense.nextReading) Config.readingTicks
  let u := (s.elapseTo dt t).modSense (fun x => { x with nextReading := t + Config.readingTicks })
  .next (u.readingInstant.finish false)

/-- ANALOGUE_SAMPLE (R78, R83): the converter values of cells 0..3 at the next sampling instant. -/
def execAnalogueSample (dt : Nat) (x0 x1 : BitVec 12) (x2 x3 : CellSample) (s : State) : Result :=
  let t := roundUp (max (s.now + dt) s.sense.nextSample) Config.sampleTicks
  let u := (s.elapseTo dt t).modSense (fun x => { x with nextSample := t + Config.sampleTicks })
  .next ((u.sampleAll x0.toNat x1.toNat x2.background.toNat x3.background.toNat x2.acquisition.toNat
    x3.acquisition.toNat).finish false)

/-- LEVEL_SAMPLES_COMPLETE (R83). -/
def execLevelSamplesComplete (dt : Nat) (s : State) : Result :=
  .next (match s.levelComplete with
    | some _ => ((s.elapse dt).levelEnds).finish false
    | none => s.elapse dt)

/-- TIMING_INPUT_CHANGE (R80): a raw level on cell 4 + i. -/
def execTimingInputChange (dt : Nat) (cell : Fin 4) (level : Bool) (s : State) : Result :=
  .next (((s.elapse dt).timingInput cell.val level).finish false)

/-- TIMING_EDGE (R80, R85, R87): the deglitched level of cell 4 + i changes. -/
def execTimingEdge (dt : Nat) (cell : Fin 4) (s : State) : Result :=
  .next (match (vecGet s.sense.timing cell.val (.at false)).endsAt with
    | some t => ((s.elapseTo dt t).timingEdge cell.val).finish false
    | none => s.elapse dt)

/-- LOGIC_INPUT_CHANGE (R81): a raw level on cell 8 + i. -/
def execLogicInputChange (dt : Nat) (cell : Fin 4) (level : Bool) (s : State) : Result :=
  .next (((s.elapse dt).logicInput cell.val level).finish false)

/-- LOGIC_LEVEL_TAKEN (R81): cell 8 + i takes its raw level. -/
def execLogicLevelTaken (dt : Nat) (cell : Fin 4) (s : State) : Result :=
  .next (match (vecGet s.sense.logic cell.val (.at false)).endsAt with
    | some t => ((s.elapseTo dt t).logicTaken cell.val).finish false
    | none => s.elapse dt)

/-- GATE_TIMEOUT (R86). -/
def execGateTimeout (dt : Nat) (s : State) : Result :=
  .next (match s.sense.slot.bind Acquisition.timeoutTick with
    | some _ => (s.gateTimeout dt).finish false
    | none => s.elapse dt)

/-- COUNT_INTERVAL_END (R87). -/
def execCountIntervalEnd (dt : Nat) (s : State) : Result :=
  .next (match s.sense.slot.bind Acquisition.countEnd with
    | some _ => (s.countEnds dt).finish false
    | none => s.elapse dt)

/-- QUALIFY_TIMER_EXPIRY (R96, R98). -/
def execQualifyTimerExpiry (dt : Nat) (cond : Fin 8) (s : State) : Result :=
  .next (match (vecGet s.sense.conditions cond.val ⟨false, none⟩).timer with
    | some _ => (s.qualifyExpires cond.val dt).finish false
    | none => s.elapse dt)

end Sys2Proof.Machine
end

