-- ==== Sys2Proof/Machine/NetCommands.lean ====
section
/-! DEFINITION. The commands at the network frame port and the Capture Table (R63, R67, R74, R75). -/

namespace Sys2Proof.Machine

/-- The next millisecond of the clock at or after `dt` ticks from now, if the clock counts (R63, R183). -/
def State.examinationTick (s : State) (dt : Nat) : Option Nat :=
  s.join.clockStart.map (fun c => c + roundUp (s.now + dt - c) Config.ticksPerMs)

/-- The examination of the entries, flag source 15 following the first LATE flag (R63 to R65). -/
def State.examination (s : State) : State :=
  let t := s.examineAll
  let u := if t.net.anyLate = s.net.anyLate then t else State.offer s.engine (t.sourceChanged 15)
  u.arbiter

/-- NET_SCHEDULE_EXAMINATION (R63 to R66). -/
def execNetScheduleExamination (dt : Nat) (s : State) : Result :=
  .next (match s.examinationTick dt with
    | some t => ((s.elapseTo dt t).examination).finish false
    | none => s.elapse dt)

/-- SENT_COMPLETION (R67): a BUSY port becomes FREE and the arbiter acts; a FREE one ignores it. -/
def execSentCompletion (dt : Nat) (s : State) : Result := .next (((s.elapse dt).sentComplete).finish false)

/-- RECEIVE_HANDOFF (R74, R76). -/
def execReceiveHandoff (dt : Nat) (ident : BitVec 11) (payload : List Byte) (s : State) : Result :=
  let r := (s.elapse dt).captureArrive ident.toNat payload
  .next ((match r.2 with
    | some rd => r.1.handReading rd
    | none => r.1).finish false)

/-- NETFIELD_WAIT_EXPIRY (R75): the armed acquisition ends with NO SIGNAL. -/
def execNetfieldWaitExpiry (dt : Nat) (s : State) : Result :=
  .next (match s.captureTimeout with
    | some t => (((s.elapseTo dt t).disarm).handReading .noSignal).finish false
    | none => s.elapse dt)

end Sys2Proof.Machine
end

