-- ==== Sys2Proof/Machine/StimCommands.lean ====
section
/-! DEFINITION. The commands at the stimulus channels: ramp updates, one-shots and the two halves of a
pulse period (R45 to R49, R52). -/

namespace Sys2Proof.Machine

/-- RAMP_UPDATE (R49), with completion when no ramp runs any more (R52). -/
def execRampUpdate (dt : Nat) (ch : Fin 16) (s : State) : Result :=
  .next (match (s.channel ch.val).ramp with
    | some r =>
      let t := s.elapseTo dt r.nextUpdate
      let u := t.onChannel ch.val ((t.channel ch.val).rampUpdate ch.val (t.plan.channelSetup ch.val) t.now)
      (State.report u.completeScene).finish false
    | none => s.elapse dt)

/-- ONE_SHOT_EXPIRY (R45): the switch goes OFF. -/
def execOneShotExpiry (dt : Nat) (ch : Fin 16) (s : State) : Result :=
  .next (match (s.channel ch.val).oneShot with
    | some t =>
      let u := s.elapseTo dt t
      (u.onChannel ch.val ({ u.channel ch.val with setpoint := 0, oneShot := none }, false)).finish false
    | none => s.elapse dt)

/-- PERIOD_START (R47, R48): the period in progress has run to its end. -/
def execPeriodStart (dt : Nat) (ch : Fin 16) (s : State) : Result :=
  .next (match (s.channel ch.val).run with
    | some r =>
      let u := s.elapseTo dt (r.start + r.period)
      (u.onChannel ch.val ((u.channel ch.val).boundary (r.start + r.period))).finish false
    | none => s.elapse dt)

/-- HIGH_TIME_END (R46): the low time begins. -/
def execHighTimeEnd (dt : Nat) (ch : Fin 16) (s : State) : Result :=
  .next (match (s.channel ch.val).run with
    | some r =>
      if r.inHigh then
        let u := s.elapseTo dt (r.start + r.high)
        (u.onChannel ch.val
          ({ u.channel ch.val with run := some { r with inHigh := false }, active := false }, false)).finish false
      else s.elapse dt
    | none => s.elapse dt)

end Sys2Proof.Machine
end

