-- ==== Sys2Proof/Machine/EngineCommands.lean ====
section
/-! DEFINITION. The timers of the Step Engine, the Prompt Queue and the Claim Unit (R104, R109, R156,
R157, R163, R169). -/

namespace Sys2Proof.Machine

/-- DWELL_EXPIRY (R104). -/
def execDwellExpiry (dt : Nat) (s : State) : Result :=
  .next (match s.engine.dwell with
    | some t =>
      (State.run ((s.elapseTo dt t).modEngine (fun e => { e with dwell := none }), some .part)).finish false
    | none => s.elapse dt)

/-- SETTLE_TIMEOUT (R109 to R111). -/
def execSettleTimeout (dt : Nat) (s : State) : Result :=
  .next (match s.engine.settle with
    | some t => ((s.elapseTo dt t).settleExpired).finish false
    | none => s.elapse dt)

/-- PROMPT_TIMEOUT (R169): the POSTED prompt is taken down and its step gets NO SIGNAL. -/
def execPromptTimeout (dt : Nat) (s : State) : Result :=
  .next (match s.prompts.timer with
    | some t =>
      let u := (s.elapseTo dt t).modPrompts (fun p => { p with timer := none })
      (match u.postedEntry with
       | some (e, tag) =>
         let v := u.takeDown e.source tag
         if e.source = PromptSource.step then v.judgeEnds .noSignal else v
       | none => u).finish false
    | none => s.elapse dt)

/-- What an expired resource wait (914) means to the owner of the want (R53, R112, R157, R166). -/
def State.waitExpired (s : State) : Resource → State
  | .panel =>
    let r := (s.modClaims (fun c => { c with panel := { c.panel with wait := none } })).panelExpired
    if r.2 then r.1.judgeEnds (.error 914) else r.1
  | .gantry =>
    let t := s.modClaims (fun c => { c with gantry := { c.gantry with wait := none } })
    if t.engine.state = .awaitResource then t.lightError 914 else t.endGantry
  | .budget => State.report s.budgetExpired

/-- The wait timer of a resource (R153). -/
def Claims.waitOf (c : Claims) : Resource → Option Nat
  | .budget => c.budget.wait
  | r => (c.of r).wait

/-- RESOURCE_WAIT_EXPIRY (R157). -/
def execResourceWaitExpiry (dt : Nat) (res : Resource) (s : State) : Result :=
  .next (match s.claims.waitOf res with
    | some t => ((s.elapseTo dt t).waitExpired res).finish false
    | none => s.elapse dt)

/-- RETRY_TIMER_EXPIRY (R156): the check is made again. -/
def execRetryTimerExpiry (dt : Nat) (res : Resource) (s : State) : Result :=
  .next (match s.claims.retryOf res with
    | some t => ((s.elapseTo dt t).modClaims (fun c => c.setRetry res none)).finish false
    | none => s.elapse dt)

/-- GANTRY_RESULT_TIMEOUT (R163): ERROR 913. -/
def execGantryResultTimeout (dt : Nat) (s : State) : Result :=
  .next (match s.claims.request with
    | .outstanding _ t =>
      let u := (s.elapseTo dt t).modClaims (fun c => { c with request := .none })
      (if u.engine.state = .awaitResult then u.lightError 913 else u).finish false
    | _ => s.elapse dt)

end Sys2Proof.Machine
end

