-- ==== Sys2Proof/Machine/BusCommands.lean ====
section
/-! DEFINITION. The events of the rack line that carry no frame to a block of their own: idle, lost
arbitration, bit clash, rejection, frames that are not routed, commands and replies (R128 to R132,
R136 to R140). -/

namespace Sys2Proof.Machine

/-- BUS_IDLE (R128): IDLE, and the frame at the head of the queue is started. -/
def execBusIdle (dt : Nat) (s : State) : Result := .next ((s.busIdle dt).finish false)

/-- ARBITRATION_LOST (R129); in IDLE another node has started first (R128, assumption 8). -/
def execArbitrationLost (dt : Nat) (s : State) : Result := .next (((s.elapse dt).loseArbitration).finish false)

/-- BIT_CLASH (R130): CONFLICT. -/
def execBitClash (dt : Nat) (s : State) : Result :=
  .next (match s.rbi.bus with
    | .sending _ => ((s.elapse dt).enterConflict).finish false
    | _ => s.elapse dt)

/-- FRAME_REJECTED (R132); `line` holds the bits of another node's frame as this station received them. -/
def execFrameRejected (pt : PinnedTicks) (line : List Bool) (s : State) : Result :=
  .next (((s.readPins pt.pins).rejected pt.ticks line).finish false)

/-- UNROUTED_FRAME_DELIVERY (R136, R137). -/
def execUnroutedFrameDelivery (dt : Nat) (frame : Frame) (s : State) : Result := .next (s.deliver dt frame)

/-- COMMAND_DELIVERED (R138). -/
def execCommandDelivered (pt : PinnedTicks) (frame : Frame) (s : State) : Result :=
  .next ((s.readPins pt.pins).deliver pt.ticks frame)

/-- REPLY_DELIVERED (R140, R142). -/
def execReplyDelivered (pt : PinnedTicks) (frame : Frame) (s : State) : Result :=
  .next ((s.readPins pt.pins).deliver pt.ticks frame)

end Sys2Proof.Machine
end

