-- ==== Sys2Proof/Machine/RackCommands.lean ====
section
/-! DEFINITION. The delivered frames of the rack, one command for each kind (R135, R192): each is the
delivery of a frame of that kind (R132, R136). -/

namespace Sys2Proof.Machine

/-- CLAIM (R145, R146). -/
def execClaim (dt : Nat) (d : Delivery) (s : State) : Result := .next (s.deliver dt (deliveryFrame 10 d))

/-- RELEASE (R147). -/
def execRelease (dt : Nat) (d : Delivery) (s : State) : Result := .next (s.deliver dt (deliveryFrame 9 d))

/-- HOLDING (R150). -/
def execHolding (dt : Nat) (d : Delivery) (s : State) : Result := .next (s.deliver dt (deliveryFrame 8 d))

/-- ATTENTION (R149, R158). -/
def execAttention (dt : Nat) (d : Delivery) (s : State) : Result := .next (s.deliver dt (deliveryFrame 2 d))

/-- REBUILD_END (R152, R160). -/
def execRebuildEnd (dt : Nat) (d : Delivery) (s : State) : Result := .next (s.deliver dt (deliveryFrame 3 d))

/-- FORCE_RELEASE (R148, R160). -/
def execForceRelease (dt : Nat) (d : Delivery) (s : State) : Result := .next (s.deliver dt (deliveryFrame 6 d))

/-- VERDICT_NOTICE (R177). -/
def execVerdictNotice (dt : Nat) (d : Delivery) (s : State) : Result := .next (s.deliver dt (deliveryFrame 11 d))

/-- RACK_HALT (R179). -/
def execRackHalt (dt : Nat) (d : Delivery) (s : State) : Result := .next (s.deliver dt (deliveryFrame 4 d))

/-- LINE_RESUME (R181). -/
def execLineResume (dt : Nat) (d : Delivery) (s : State) : Result := .next (s.deliver dt (deliveryFrame 5 d))

/-- RACK_PARAMETERS (R186). -/
def execRackParameters (dt : Nat) (d : Delivery) (s : State) : Result := .next (s.deliver dt (deliveryFrame 20 d))

/-- ADDRESS_TAKEN (R185). -/
def execAddressTaken (dt : Nat) (d : Delivery) (s : State) : Result := .next (s.deliver dt (deliveryFrame 1 d))

/-- PROMPT_ANSWER (R168). -/
def execPromptAnswer (dt : Nat) (d : Delivery) (s : State) : Result := .next (s.deliver dt (deliveryFrame 14 d))

/-- PROMPT_POST (R167). -/
def execPromptPost (dt : Nat) (d : Delivery) (s : State) : Result := .next (s.deliver dt (deliveryFrame 12 d))

/-- PROMPT_WITHDRAW (R170). -/
def execPromptWithdraw (dt : Nat) (d : Delivery) (s : State) : Result := .next (s.deliver dt (deliveryFrame 13 d))

/-- MEASURE_REQUEST (R162). -/
def execMeasureRequest (dt : Nat) (d : Delivery) (s : State) : Result := .next (s.deliver dt (deliveryFrame 16 d))

/-- MEASURE_RESULT (R163). -/
def execMeasureResult (dt : Nat) (d : Delivery) (s : State) : Result := .next (s.deliver dt (deliveryFrame 17 d))

end Sys2Proof.Machine
end

