-- ==== Sys2Proof/Machine/LineCommands.lean ====
section
/-! DEFINITION. The line node's commands, one for each kind: the delivery of the command's frame, which
a handler in READY takes at that event (R138, R139; assumption 7), and the end of a validation (R5). -/

namespace Sys2Proof.Machine

/-- PLAN_BEGIN (R2). -/
def execPlanBegin (dt : Nat) (d : Delivery) (s : State) : Result := .next (s.deliver dt (deliveryFrame 32 d))

/-- PLAN_RECORD (R3, R4). -/
def execPlanRecord (dt : Nat) (d : Delivery) (s : State) : Result := .next (s.deliver dt (deliveryFrame 33 d))

/-- PLAN_SEAL (R5). -/
def execPlanSeal (dt : Nat) (d : Delivery) (s : State) : Result := .next (s.deliver dt (deliveryFrame 34 d))

/-- UNIT_ABORT (R121). -/
def execUnitAbort (dt : Nat) (d : Delivery) (s : State) : Result := .next (s.deliver dt (deliveryFrame 36 d))

/-- VERDICT_QUERY (R123). -/
def execVerdictQuery (dt : Nat) (d : Delivery) (s : State) : Result := .next (s.deliver dt (deliveryFrame 37 d))

/-- VERDICT_RELEASE (R124). -/
def execVerdictRelease (dt : Nat) (d : Delivery) (s : State) : Result := .next (s.deliver dt (deliveryFrame 38 d))

/-- VOID_UNIT (R125). -/
def execVoidUnit (dt : Nat) (d : Delivery) (s : State) : Result := .next (s.deliver dt (deliveryFrame 39 d))

/-- STATUS_QUERY (R182). -/
def execStatusQuery (dt : Nat) (d : Delivery) (s : State) : Result := .next (s.deliver dt (deliveryFrame 40 d))

/-- CLEAR_FAULT (R39). -/
def execClearFault (dt : Nat) (d : Delivery) (s : State) : Result := .next (s.deliver dt (deliveryFrame 41 d))

/-- CLEAR_SUSPECT (R40). -/
def execClearSuspect (dt : Nat) (d : Delivery) (s : State) : Result := .next (s.deliver dt (deliveryFrame 42 d))

/-- STATION_RESET (R142, R189). -/
def execStationReset (dt : Nat) (d : Delivery) (s : State) : Result := .next (s.deliver dt (deliveryFrame 43 d))

/-- UNIT_START (R100, R101), with the level of the fixture code pins at its event (R25, assumption 24). -/
def execUnitStart (dt : Nat) (pins : BitVec 6) (d : Delivery) (s : State) : Result :=
  .next ((s.readPins pins).deliver dt (deliveryFrame 35 d))

/-- SEAL_VALIDATION_END (R5, R19): the next advance of the millisecond clock. -/
def execSealValidationEnd (pt : PinnedTicks) (s : State) : Result :=
  .next (match s.handler.job with
    | some j => (((s.readPins pt.pins).elapseTo pt.ticks (s.nextMs j.takenAt)).sealEnds).finish false
    | none => s.elapse pt.ticks)

end Sys2Proof.Machine
end

