-- ==== Sys2Proof/Machine/Dispatch.lean ====
section
/-! DEFINITION. One arm per command: its meaning. -/

namespace Sys2Proof.Machine

def exec (i : Instr) (s : State) : Host.Outcome State Fault Refusal :=
  match i with
  | .coldReset pins => Sys2Proof.Machine.execColdReset pins s
  | .selfCheckEnd back => Sys2Proof.Machine.execSelfCheckEnd back s
  | .nestSensorInput dt sensor level => Sys2Proof.Machine.execNestSensorInput dt sensor level s
  | .partPresentChange dt => Sys2Proof.Machine.execPartPresentChange dt s
  | .clampClosedChange dt => Sys2Proof.Machine.execClampClosedChange dt s
  | .clampOpenChange dt => Sys2Proof.Machine.execClampOpenChange dt s
  | .guardChange dt => Sys2Proof.Machine.execGuardChange dt s
  | .clampTimeout dt => Sys2Proof.Machine.execClampTimeout dt s
  | .contactWaitExpiry dt => Sys2Proof.Machine.execContactWaitExpiry dt s
  | .readingInstant dt => Sys2Proof.Machine.execReadingInstant dt s
  | .levelSamplesComplete dt => Sys2Proof.Machine.execLevelSamplesComplete dt s
  | .timingInputChange dt cell level => Sys2Proof.Machine.execTimingInputChange dt cell level s
  | .timingEdge dt cell => Sys2Proof.Machine.execTimingEdge dt cell s
  | .logicInputChange dt cell level => Sys2Proof.Machine.execLogicInputChange dt cell level s
  | .logicLevelTaken dt cell => Sys2Proof.Machine.execLogicLevelTaken dt cell s
  | .gateTimeout dt => Sys2Proof.Machine.execGateTimeout dt s
  | .countIntervalEnd dt => Sys2Proof.Machine.execCountIntervalEnd dt s
  | .qualifyTimerExpiry dt cond => Sys2Proof.Machine.execQualifyTimerExpiry dt cond s
  | .netScheduleExamination dt => Sys2Proof.Machine.execNetScheduleExamination dt s
  | .sentCompletion dt => Sys2Proof.Machine.execSentCompletion dt s
  | .receiveHandoff dt ident payload => Sys2Proof.Machine.execReceiveHandoff dt ident payload s
  | .netfieldWaitExpiry dt => Sys2Proof.Machine.execNetfieldWaitExpiry dt s
  | .rampUpdate dt ch => Sys2Proof.Machine.execRampUpdate dt ch s
  | .oneShotExpiry dt ch => Sys2Proof.Machine.execOneShotExpiry dt ch s
  | .periodStart dt ch => Sys2Proof.Machine.execPeriodStart dt ch s
  | .dwellExpiry dt => Sys2Proof.Machine.execDwellExpiry dt s
  | .settleTimeout dt => Sys2Proof.Machine.execSettleTimeout dt s
  | .promptTimeout dt => Sys2Proof.Machine.execPromptTimeout dt s
  | .resourceWaitExpiry dt res => Sys2Proof.Machine.execResourceWaitExpiry dt res s
  | .retryTimerExpiry dt res => Sys2Proof.Machine.execRetryTimerExpiry dt res s
  | .gantryResultTimeout dt => Sys2Proof.Machine.execGantryResultTimeout dt s
  | .rebuildTimerExpiry dt => Sys2Proof.Machine.execRebuildTimerExpiry dt s
  | .announceTimerExpiry dt => Sys2Proof.Machine.execAnnounceTimerExpiry dt s
  | .busIdle dt => Sys2Proof.Machine.execBusIdle dt s
  | .arbitrationLost dt => Sys2Proof.Machine.execArbitrationLost dt s
  | .bitClash dt => Sys2Proof.Machine.execBitClash dt s
  | .frameRejected pt line => Sys2Proof.Machine.execFrameRejected pt line s
  | .unroutedFrameDelivery dt frame => Sys2Proof.Machine.execUnroutedFrameDelivery dt frame s
  | .commandDelivered pt frame => Sys2Proof.Machine.execCommandDelivered pt frame s
  | .claim dt d => Sys2Proof.Machine.execClaim dt d s
  | .release dt d => Sys2Proof.Machine.execRelease dt d s
  | .holding dt d => Sys2Proof.Machine.execHolding dt d s
  | .attention dt d => Sys2Proof.Machine.execAttention dt d s
  | .rebuildEnd dt d => Sys2Proof.Machine.execRebuildEnd dt d s
  | .forceRelease dt d => Sys2Proof.Machine.execForceRelease dt d s
  | .verdictNotice dt d => Sys2Proof.Machine.execVerdictNotice dt d s
  | .rackHalt dt d => Sys2Proof.Machine.execRackHalt dt d s
  | .lineResume dt d => Sys2Proof.Machine.execLineResume dt d s
  | .rackParameters dt d => Sys2Proof.Machine.execRackParameters dt d s
  | .addressTaken dt d => Sys2Proof.Machine.execAddressTaken dt d s
  | .promptAnswer dt d => Sys2Proof.Machine.execPromptAnswer dt d s
  | .promptPost dt d => Sys2Proof.Machine.execPromptPost dt d s
  | .promptWithdraw dt d => Sys2Proof.Machine.execPromptWithdraw dt d s
  | .measureRequest dt d => Sys2Proof.Machine.execMeasureRequest dt d s
  | .measureResult dt d => Sys2Proof.Machine.execMeasureResult dt d s
  | .replyDelivered pt frame => Sys2Proof.Machine.execReplyDelivered pt frame s
  | .planBegin dt d => Sys2Proof.Machine.execPlanBegin dt d s
  | .planRecord dt d => Sys2Proof.Machine.execPlanRecord dt d s
  | .planSeal dt d => Sys2Proof.Machine.execPlanSeal dt d s
  | .sealValidationEnd pt => Sys2Proof.Machine.execSealValidationEnd pt s
  | .unitStart dt pins d => Sys2Proof.Machine.execUnitStart dt pins d s
  | .unitAbort dt d => Sys2Proof.Machine.execUnitAbort dt d s
  | .verdictQuery dt d => Sys2Proof.Machine.execVerdictQuery dt d s
  | .verdictRelease dt d => Sys2Proof.Machine.execVerdictRelease dt d s
  | .voidUnit dt d => Sys2Proof.Machine.execVoidUnit dt d s
  | .clearFault dt d => Sys2Proof.Machine.execClearFault dt d s
  | .clearSuspect dt d => Sys2Proof.Machine.execClearSuspect dt d s
  | .statusQuery dt d => Sys2Proof.Machine.execStatusQuery dt d s
  | .stationReset dt d => Sys2Proof.Machine.execStationReset dt d s
  | .analogueSample dt x0 x1 x2 x3 => Sys2Proof.Machine.execAnalogueSample dt x0 x1 x2 x3 s
  | .highTimeEnd dt ch => Sys2Proof.Machine.execHighTimeEnd dt ch s

end Sys2Proof.Machine
end

