-- ==== Sys2Proof/Safety.lean ====
section
/-! DEFINITION. What a safe station is, in the terms the statements use: the invariants that every
event keeps, and the conditions under which an event's own effect stands alone. -/

namespace Sys2Proof.Machine

/-! ## When an event's own effect stands alone -/

/-- At the end of the event no grant can reach the Stimulus Unit or the Step Engine, no surplus can
come back to them, and no unit is waiting to leave ENDING: the reactions that close an event (R53,
R54, R111, R118) leave both as they are. -/
def State.Settled (s : State) : Prop :=
  s.stim.app ≠ .awaitingBudget ∧ s.stim.app ≠ .returningSurplus ∧
  s.engine.state ≠ .awaitResource ∧ s.engine.state ≠ .ending

/-- No party waits for the event of a condition (R98): no ELAPSED acquisition is armed, the engine is
not in a WAIT step, and no step prompt stands. -/
def State.Unwatched (s : State) : Prop :=
  (∀ a, s.sense.slot = some a → ∀ c r, a.source ≠ .elapsed c r) ∧ s.engine.state ≠ .acquiring ∧
  ∀ e ∈ s.prompts.entries, e.source ≠ .step

/-- The station is on the bus under an address of its own: it takes the frames of other nodes (R128, R131). -/
def State.Listening (s : State) : Prop :=
  s.rbi.bus ≠ .silent ∧ 1 ≤ s.rbi.address ∧ s.rbi.address ≤ 24

/-- Another node's frame of `bits` bit times that ends `dt` ticks from `s` has been received from its start bit:
that bit did not come before settling began (R128). -/
def State.Hears (s : State) (dt bits : Nat) : Prop :=
  (s.rbi.bus = .settling ∨ s.rbi.bus = .idle) → s.rbi.settleFrom + bits * 16 ≤ s.now + dt

/-- A command of the line node, delivered `dt` ticks from `s`, finds a handler in READY with nothing queued and
room for its reply (R128, R134, R138, R139). -/
def State.ReadyFor (s : State) (dt : Nat) (d : Delivery) : Prop :=
  s.Listening ∧ s.Hears dt (41 + 8 * d.payload.length) ∧ d.src.toNat = 30 ∧ d.dst.toNat = s.rbi.address ∧
  s.handler.state = .ready ∧ s.handler.queue = [] ∧ txCount s.rbi.queue .handler < 4

/-- Rack parameters are present only after AWAITING PARAMETERS, or in CONFLICT (R186). -/
def State.ParamsStand (s : State) : Prop :=
  s.join.params.isSome = true →
    s.join.state ≠ .selfCheck ∧ s.join.state ≠ .announcing ∧ s.join.state ≠ .awaitingParameters

/-- A frame body stands in the transmit queue. -/
def State.Queues (s : State) (b : TxBody) : Prop := ∃ e ∈ s.rbi.queue, e.body = b

/-! ## The Rack View (R143, R145, R146) -/

/-- At most one holder, and no station twice among the holder and the waiting list (R145). -/
def Exclusive.Fair (x : Exclusive) : Prop := x.waiting.Nodup ∧ ∀ st, x.holder = some st → st ∉ x.waiting

/-- The resources of the view: exclusive resources are fair, at most one budget entry stands per
station and each is of a station 1..24, and the held budget of the 24 stations never exceeds the total (R143, R145, R146). -/
def View.Sound (v : View) : Prop :=
  v.panel.Fair ∧ v.gantry.Fair ∧ (v.budgetList.map (·.1)).Nodup ∧
  (∀ e ∈ v.budgetList, 1 ≤ e.1 ∧ e.1 ≤ 24) ∧ v.held.length = 24 ∧ v.held.sum ≤ v.total

/-- A view that has still to become ACTIVE, before the join machine has its parameters: nothing is
held, and no ATTENTION of the station stands in its queue or is owed (R143, R185, R187). -/
def State.Unjoined (s : State) : Prop :=
  s.view.active = false ∧ s.view.held.sum = 0 ∧ s.join.attentionDue = false ∧ ¬ s.Queues .attention

/-- The view of a station is sound, and stands as the cold reset left it until the parameters come. -/
def State.ViewSound (s : State) : Prop :=
  s.view.Sound ∧
  (s.join.state = .selfCheck ∨ s.join.state = .announcing ∨ s.join.state = .awaitingParameters → s.Unjoined)

/-! ## Stimulus at rest (R42, R43, R56, R57) -/

/-- A channel at its SAFE value (R43, R56); a stopped pulse channel holds no pair (assumption 61). -/
def Channel.AtRest (ch : Channel) : Prop :=
  ch.setpoint = 0 ∧ ch.code = 0 ∧ ch.freq = 0 ∧ ch.run = none ∧ ch.pend = .none ∧ ch.derRun = false ∧
  ch.active = false ∧ ch.ramp = none ∧ ch.oneShot = none

/-- Every channel at its SAFE value, every network entry disabled and no request held or waiting (R56). -/
def State.StimulusAtRest (s : State) : Prop :=
  (∀ ch ∈ s.stim.channels.toList, ch.AtRest) ∧ s.stim.applied = 0 ∧ s.stim.app = .idle ∧
  s.stim.request = none ∧ (∀ e ∈ s.net.entries.toList, e.enabled = false)

/-- Outside CONTACTING and TESTING no stimulus stands (R57). -/
def State.RestsOutsideTest (s : State) : Prop := nestLive s.nest.state = false → s.StimulusAtRest

/-! ## The valve (R23, R30) -/

/-- The valve is ON in the clamped states and OFF in every other, but for HELD, which keeps it, and
for the opening half of a reseat, in CONTACTING with the valve OFF; a contact check stands only in
CONTACTING (R23, R29, R30). -/
def Nest.ValveSound (n : Nest) : Prop :=
  (n.contact ≠ .none → n.state = .contacting) ∧ (n.contact = .opening → n.valve = false) ∧
  (n.state ≠ .held → n.contact ≠ .opening → n.valve = nestClamped n.state)

/-- The valve is sound, and an acquisition of the nest stands only in CONTACTING, while the contact check awaits it
(R29, R82). -/
def State.ValveSound (s : State) : Prop :=
  s.nest.ValveSound ∧
  ∀ a, s.sense.slot = some a → a.forNest = true → s.nest.state = .contacting ∧ s.nest.contact = .acquiring

/-! ## Queues and stores (R122, R125, R133, R134, R138) -/

/-- The transmit queue is in class order and each producer keeps within its share (R133, R134). -/
def Rbi.QueueSound (r : Rbi) : Prop :=
  r.queue.Pairwise (fun x y => x.body.cls ≤ y.body.cls) ∧ ∀ p : Producer, txCount r.queue p ≤ p.share

/-- The command queue holds at most 4 commands (R138). -/
def Handler.QueueSound (h : Handler) : Prop := h.queue.length ≤ 4

/-- At most 4 unit records, of which only the newest may be OPEN (R122). -/
def VerdictStore.Sound (v : VerdictStore) : Prop :=
  v.records.length ≤ 4 ∧ ∀ r ∈ v.records.dropLast, r.verdict ≠ .unfinished

/-- The queues and the stores of a station keep their bounds (R122, R125, R133, R134, R138). -/
def State.StoresSound (s : State) : Prop :=
  s.rbi.QueueSound ∧ s.handler.QueueSound ∧ s.store.Sound ∧ s.history.length = 8

/-- A safe station: its view is sound, no stimulus stands outside a test, its valve follows the nest,
and its queues and stores keep their bounds. -/
def State.Safe (s : State) : Prop := s.ViewSound ∧ s.RestsOutsideTest ∧ s.ValveSound ∧ s.StoresSound

end Sys2Proof.Machine
end

