-- ==== Sys2Proof/Certificates/Slice0/Obligations.lean ====
section
/-! DEFINITION. The statements about the station, for the provers. Each says which rules of the spec it
formalises; a statement that rests on the model's own choice names the assumption. -/

open Sys2Proof Sys2Proof.Machine

namespace Sys2Proof.Stated

/-- The ticks that a command carries; COLD_RESET carries none (assumption 1). -/
def ticksOf : Instr → Option Nat
  | .coldReset _ => none
  | .selfCheckEnd back => some back.ticks
  | .frameRejected pt _ | .commandDelivered pt _ | .replyDelivered pt _ | .sealValidationEnd pt => some pt.ticks
  | .nestSensorInput dt _ _ | .partPresentChange dt | .clampClosedChange dt
  | .clampOpenChange dt | .guardChange dt | .clampTimeout dt | .contactWaitExpiry dt
  | .readingInstant dt | .levelSamplesComplete dt | .timingInputChange dt _ _ | .timingEdge dt _
  | .logicInputChange dt _ _ | .logicLevelTaken dt _ | .gateTimeout dt | .countIntervalEnd dt
  | .qualifyTimerExpiry dt _ | .netScheduleExamination dt | .sentCompletion dt
  | .receiveHandoff dt _ _ | .netfieldWaitExpiry dt | .rampUpdate dt _ | .oneShotExpiry dt _
  | .periodStart dt _ | .dwellExpiry dt | .settleTimeout dt | .promptTimeout dt
  | .resourceWaitExpiry dt _ | .retryTimerExpiry dt _ | .gantryResultTimeout dt
  | .rebuildTimerExpiry dt | .announceTimerExpiry dt | .busIdle dt | .arbitrationLost dt
  | .bitClash dt | .unroutedFrameDelivery dt _
  | .claim dt _ | .release dt _ | .holding dt _ | .attention dt _ | .rebuildEnd dt _
  | .forceRelease dt _ | .verdictNotice dt _ | .rackHalt dt _ | .lineResume dt _
  | .rackParameters dt _ | .addressTaken dt _ | .promptAnswer dt _ | .promptPost dt _
  | .promptWithdraw dt _ | .measureRequest dt _ | .measureResult dt _
  | .planBegin dt _ | .planRecord dt _ | .planSeal dt _
  | .unitStart dt _ _ | .unitAbort dt _ | .verdictQuery dt _ | .verdictRelease dt _
  | .voidUnit dt _ | .clearFault dt _ | .clearSuspect dt _ | .statusQuery dt _
  | .stationReset dt _ | .analogueSample dt _ _ _ _ | .highTimeEnd dt _ => some dt

/-- The rows that deliver a frame (R132, R136). -/
def isDelivery : Instr → Bool
  | .unroutedFrameDelivery .. | .commandDelivered .. | .claim .. | .release .. | .holding ..
  | .attention .. | .rebuildEnd .. | .forceRelease .. | .verdictNotice .. | .rackHalt ..
  | .lineResume .. | .rackParameters .. | .addressTaken .. | .promptAnswer .. | .promptPost ..
  | .promptWithdraw .. | .measureRequest .. | .measureResult .. | .replyDelivered .. | .planBegin ..
  | .planRecord .. | .planSeal .. | .unitStart .. | .unitAbort .. | .verdictQuery ..
  | .verdictRelease .. | .voidUnit .. | .clearFault .. | .clearSuspect .. | .statusQuery ..
  | .stationReset .. => true
  | _ => false

/-- What the reactions of the inner blocks never change. -/
def OuterUnchanged (s t : State) : Prop :=
  t.now = s.now ∧ t.pins = s.pins ∧ t.rbi.address = s.rbi.address ∧ t.handler = s.handler ∧
  t.view = s.view ∧ t.plan = s.plan ∧ t.pending = s.pending ∧ t.join.state = s.join.state ∧
  t.join.qualifier = s.join.qualifier ∧ t.join.params = s.join.params ∧
  t.join.clockStart = s.join.clockStart

/-- The blocks between the frame port and the line as they were. -/
def CoreUnchanged (s t : State) : Prop :=
  t.nest = s.nest ∧ t.stim = s.stim ∧ t.capture = s.capture ∧ t.sense = s.sense ∧
  t.engine = s.engine ∧ t.store = s.store ∧ t.history = s.history

/-- A frame that reaches the station `dt` ticks from `s`: it is not SILENT, and the frame is another node's
that it has received from its start bit, or the one the station itself has on the line (R128, R132, R137). -/
def Takes (s : State) (dt : Nat) (f : Frame) : Prop :=
  s.rbi.bus ≠ .silent ∧
  ((f.src.toNat ≠ s.rbi.address ∧ s.Hears dt (41 + 8 * f.payload.length)) ∨
   ∃ start b, s.ownOnLine = some (start, b) ∧ b.frame s.rbi.address = f)

/-- The source and the destination of a frame are accepted for its kind: the table of R136, whose kinds are ATTENTION
2, REBUILD END 3, RACK HALT 4, LINE RESUME 5, FORCE RELEASE 6, HOLDING 8, RELEASE 9, CLAIM 10, VERDICT NOTICE 11,
PROMPT ANSWER 14, MEASURE RESULT 17, RACK PARAMETERS 20 and the commands 32..43 (R192). -/
def Accepted (address : Nat) (f : Frame) : Prop :=
  let k := f.kind.toNat
  let src := f.src.toNat
  let dst := f.dst.toNat
  (k ∈ [2, 3, 8, 9, 10, 11] ∧ 1 ≤ src ∧ src ≤ 24 ∧ dst = 0) ∨ ((k = 5 ∨ k = 6 ∨ k = 20) ∧ src = 30 ∧ dst = 0) ∨
  (k = 4 ∧ (src = 29 ∨ src = 30) ∧ dst = 0) ∨ (k = 14 ∧ src = 29 ∧ dst = address) ∨
  (k = 17 ∧ src = 28 ∧ dst = address) ∨ (32 ≤ k ∧ k ≤ 43 ∧ src = 30 ∧ dst = address)

/-- No block has anything to queue at the end of an event: no frame is owed, nothing of the Stimulus Unit or the
engine waits for the rack, and the Claim Unit is silent, or wants nothing, holds nothing and has no frame queued,
with no prompt standing (R118, R151, R153, R155, R166). -/
def NothingDue (s : State) : Prop :=
  s.Settled ∧ s.join.attentionDue = false ∧ s.join.rebuildEndDue = false ∧
  (s.claims.silent = true ∨
   (s.claims.panel.want = false ∧ s.claims.gantry.want = false ∧ s.claims.budget.want = 0 ∧
    s.shows .panel = false ∧ s.shows .gantry = false ∧ s.heldNow = 0 ∧ s.entryNow = none ∧
    (∀ e ∈ s.rbi.queue, ∀ r, e.body.producer ≠ .claimUnit r) ∧ s.prompts.entries = []))

/-- A broadcast of a station 1..24 (R136). -/
def FromStation (d : Delivery) : Prop := 1 ≤ d.src.toNat ∧ d.src.toNat ≤ 24 ∧ d.dst = 0

/-- The number that two payload bytes hold, the first the more significant (R190). -/
def twoBytes (hi lo : Byte) : Nat := hi.toNat * 256 + lo.toNat

/-- A CLAIM of `st` on an exclusive resource turns `x` into `y` (R145). -/
def Claimed (isOpen : Prop) (st : Nat) (x y : Exclusive) : Prop :=
  ((x.holder = some st ∨ st ∈ x.waiting) ∧ y = x) ∨
  ((x.holder ≠ some st ∧ st ∉ x.waiting) ∧
    ((¬isOpen ∧ x.holder = none ∧ x.waiting = [] ∧ y = ⟨some st, []⟩) ∨
     ((isOpen ∨ x.holder ≠ none ∨ x.waiting ≠ []) ∧ y = ⟨x.holder, x.waiting ++ [st]⟩)))

/-- A RELEASE of `st` on an exclusive resource turns `x` into `y` (R147). -/
def Released (isOpen : Prop) (st : Nat) (x y : Exclusive) : Prop :=
  (x.holder = some st ∧
    ((isOpen ∧ y = ⟨none, x.waiting⟩) ∨
     (¬isOpen ∧ x.waiting = [] ∧ y = ⟨none, []⟩) ∨
     (¬isOpen ∧ ∃ a l, x.waiting = a :: l ∧ y = ⟨some a, l⟩))) ∨
  (x.holder ≠ some st ∧ y = ⟨x.holder, x.waiting.erase st⟩)

/-- A FORCE RELEASE of `st` on an exclusive resource turns `x` into `y` (R148). -/
def Forced (isOpen : Prop) (st : Nat) (x y : Exclusive) : Prop :=
  (x.holder = some st ∧
    ((isOpen ∧ y = ⟨none, x.waiting.erase st⟩) ∨
     (¬isOpen ∧ y = ⟨(x.waiting.erase st).head?, (x.waiting.erase st).tail⟩))) ∨
  (x.holder ≠ some st ∧ y = ⟨x.holder, x.waiting.erase st⟩)

/-- The budget list is served: the head is granted while it fits, and the serving stops at the first
head that does not (R146). -/
inductive Served : View → View → Prop
  | done (v : View) (h : v.budgetList = []) : Served v v
  | stop (v : View) (st a : Nat) (rest : List (Nat × Nat)) (h : v.budgetList = (st, a) :: rest)
      (tooMuch : v.total - v.held.sum < a) : Served v v
  | grant (v w : View) (st a : Nat) (rest : List (Nat × Nat)) (h : v.budgetList = (st, a) :: rest)
      (fits : a ≤ v.total - v.held.sum)
      (next : Served { v with held := v.held.set (st - 1) (v.held.getD (st - 1) 0 + a), budgetList := rest } w) :
      Served v w

/-- The served list only while the window is CLOSED (R147, R148). -/
def ServedIfClosed (isOpen : Prop) (v w : View) : Prop := (isOpen ∧ w = v) ∨ (¬isOpen ∧ Served v w)

/-- The budget entries without those of station `st`. -/
def withoutEntry (l : List (Nat × Nat)) (st : Nat) : List (Nat × Nat) := l.filter (fun e => e.1 != st)

/-- The reply or frame `b` stands in the transmit queue of `t` behind no change of the handler. -/
def Answered (s t : State) (b : TxBody) : Prop := t.Queues b ∧ t.handler = s.handler

/-- Output `c` reads back its SAFE level (R184): code 0 on channel 0 and on a LEVEL channel, the idle or
inactive level on a PULSE or SWITCH channel, which is the high one under polarity INVERTED (assumption 41). -/
def OutputSafe (s : State) (outputs : Vector (BitVec 12) 16) (c : Nat) : Prop :=
  (vecGet outputs c 0).toNat =
    if ((1 ≤ c ∧ c ≤ 4) ∨ 9 ≤ c) ∧ (s.plan.channelSetup c).polarity = 1 then 1 else 0

/-- The background reading of cell `c` over its latest samples is 0 (R91, R184). -/
def ReadsZero (s : State) (c : Nat) : Prop :=
  roundHalfUp ((vecGet s.sense.samples c []).sum * cellFullScale c (s.plan.cellSetup c)) (4095 * 16) = 0

/-- The unit open in `s` has been aborted with a part code at the event that leads to `t`, `extra` being
the result of the step it cut short, if any: its record is closed ABORTED with the code and the
present millisecond, ABORTED is on top of the history, the engine is in ENDING or already IDLE, every
output is at SAFE and no clamped nest is left clamped (R56, R120, R122, R125). -/
def AbortedWith (s t : State) (code : Nat) (extra : List StepResult) : Prop :=
  t.store.records = s.store.records.map (fun r =>
    if r.verdict = .unfinished then
      { r with results := r.results ++ extra, finish := some t.ms, verdict := .aborted, firstFail := some code }
    else r) ∧
  t.history = (.aborted :: s.history).take 8 ∧
  (t.engine.state = .ending ∨ t.engine.state = .idle) ∧ t.StimulusAtRest ∧ nestClamped t.nest.state = false

/-- The parameters of a RACK PARAMETERS payload in their legal ranges (R186, R193). -/
def InRange (tot mar : Nat) (str sus int : Byte) (wear : Nat) (clamp wait gan : Byte) : RackParams :=
  { total := if tot ≤ 4000 then tot else 4000
    margin := if mar ≤ 2000 then mar else 2000
    streakLimit := if str.toNat = 1 then 2 else if 15 < str.toNat then 15 else str.toNat
    suspectLimit := if sus.toNat = 1 then 2 else if 8 < sus.toNat then 8 else sus.toNat
    interval := if int.toNat = 0 then 1 else int.toNat
    wearLimit := wear
    clampTimeout := if clamp.toNat ≤ 127 then clamp.toNat else 127
    resourceWait := if wait.toNat ≤ 127 then wait.toNat else 127
    gantryTimeout := if gan.toNat ≤ 127 then gan.toNat else 127 }

/-- The frame of a command of kind `k`, delivered by its own row (R192). -/
def commandOf (k dt : Nat) (d : Delivery) : Instr :=
  match k with
  | 32 => .planBegin dt d
  | 33 => .planRecord dt d
  | 34 => .planSeal dt d
  | 36 => .unitAbort dt d
  | 37 => .verdictQuery dt d
  | 38 => .verdictRelease dt d
  | 39 => .voidUnit dt d
  | 40 => .statusQuery dt d
  | 41 => .clearFault dt d
  | 42 => .clearSuspect dt d
  | _ => .stationReset dt d

/-- The station's place at a resource in a report: 2 HOLDER, 1 WAITING, 0 NONE, and 0 while the view is INACTIVE
(R182, R196). -/
def PlaceAt (s : State) (x : Exclusive) : Nat :=
  if s.view.active = false then 0
  else if x.holder = some s.rbi.address then 2 else if s.rbi.address ∈ x.waiting then 1 else 0

/-- The station is JOINED or FAILED-JOINED (2.7). -/
def HasJoined (s : State) : Prop := s.join.state = .joined ∨ s.join.state = .failedJoined

/-- A command of kind `k` with tag `tag` is refused and changes nothing but the queues of the bus. -/
def RefusedWith (c : Instr) (s : State) (k : Nat) (tag : Tag) (cls code qualifier : Nat) : Prop :=
  ∃ t, exec c s = .next t ∧ t.Queues (.refuse k tag cls code qualifier) ∧ t.handler = s.handler ∧
    t.plan = s.plan ∧ t.view = s.view ∧ t.join.state = s.join.state ∧ (s.Settled → CoreUnchanged s t)

/-- The length of the fields of a record kind: the layouts of R195. -/
def fieldBytes (k : Nat) : Nat := [0, 6, 6, 5, 12, 4, 10, 15, 10, 4, 7, 18].getD k 0

/-- The slots of a record kind: channels 1..15, cells 0..11, 8 conditions, 64 windows, 32 scenes of 16 items, 24
entries, 32 bindings, 16 captures, 16 pairs, 96 steps (R1, R3, R7). -/
def InSlots (k n : Nat) : Prop :=
  (k = 1 → 1 ≤ n) ∧ n < [0, 16, 12, 8, 64, 32, 512, 24, 32, 16, 16, 96].getD k 0

/-- A taken record stands in slot `n` of its kind, whose slots were `old`, no other slot of the kind changes, and
the plan is what `put` makes of the slots and the written-slot count, one higher for a slot that held none (R4). -/
def Writes {α : Type} (c : Instr) (s : State) (tag : Tag) (n : Nat) (old : Slots α) (x : α)
    (put : Slots α → Nat → Plan) : Prop :=
  ∃ t l, exec c s = .next t ∧ Answered s t (.accept 33 tag 0) ∧
    t.plan = put l (s.plan.written + if (slotGet old n).isSome then 0 else 1) ∧ slotGet l n = some x ∧
    (∀ j, j ≠ n → slotGet l j = slotGet old j) ∧ (s.Settled → CoreUnchanged s t)

/-- A history entry popped by VOID UNIT (R125). -/
def Voided (h : List HistoryEntry) : List HistoryEntry :=
  if h.head? = some .empty then h else h.tail ++ [.empty]

/-- SUSPECT after a change of the history to `h` (R40). -/
def SuspectAfter (s : State) (old : Bool) (h : List HistoryEntry) : Bool :=
  old || (match s.join.params with
          | some p => p.suspectLimit != 0 && decide (p.suspectLimit ≤ h.count .fail)
          | none => false)

/-- The first check of R100 that fails at a UNIT START, with its refusal: `l` is the length byte and `chars`
the characters of the serial field, `id` the plan id, `pins` the fixture code pins. Each later line holds the
checks before it as passed. -/
def FirstStartRefusal (s : State) (pins : BitVec 6) (id l : Nat) (chars : List Byte) (cls code q : Nat) : Prop :=
  let open' := ∃ r ∈ s.store.records, r.verdict = .unfinished
  let serial := 1 ≤ l ∧ l ≤ 16 ∧ ∀ b ∈ chars.take l, 32 ≤ b.toNat ∧ b.toNat ≤ 126
  (s.join.state = .failedJoined ∧ cls = 1 ∧ code = 2 ∧ q = s.join.qualifier) ∨
  (s.join.state ≠ .failedJoined ∧ s.join.state ≠ .joined ∧ cls = 1 ∧ code = 1 ∧ q = 0) ∨
  (s.join.state = .joined ∧
    ((id = 0 ∧ cls = 2 ∧ code = 3 ∧ q = 1) ∨
     (id ≠ 0 ∧ ((¬serial ∧ cls = 2 ∧ code = 3 ∧ q = 2) ∨
      (serial ∧ ((s.view.halted = true ∧ cls = 5 ∧ code = 1 ∧ q = 0) ∨
       (s.view.halted = false ∧ ((s.view.lineStopped = true ∧ cls = 4 ∧ code = 1 ∧ q = 0) ∨
        (s.view.lineStopped = false ∧ ((open' ∧ cls = 3 ∧ code = 1 ∧ q = 0) ∨
         (¬open' ∧ ((s.engine.state = .ending ∧ cls = 3 ∧ code = 2 ∧ q = 0) ∨
          (s.engine.state ≠ .ending ∧ ((4 ≤ s.store.records.length ∧ cls = 6 ∧ code = 1 ∧ q = 0) ∨
           (s.store.records.length < 4 ∧ ((s.plan.state ≠ .sealed ∧ cls = 1 ∧ code = 3 ∧ q = 0) ∨
            (s.plan.state = .sealed ∧ ((s.plan.id ≠ some id ∧ cls = 2 ∧ code = 2 ∧ q = 0) ∨
             (s.plan.id = some id ∧ ((s.nest.state ≠ .loaded ∧ cls = 1 ∧ code = 4 ∧ q = 0) ∨
              (s.nest.state = .loaded ∧ ((s.nest.guardClosed.level = false ∧ cls = 1 ∧ code = 5 ∧ q = 0) ∨
               (s.nest.guardClosed.level = true ∧
                 ((pins.toNat = 0 ∨ pins.toNat = 63) ∧ cls = 1 ∧ code = 6 ∧ q = pins.toNat))))))))))))))))))))))))

/-- The result of the step that an abort cuts short: its attempts so far, at least 1, ERROR and the part code;
none while no step runs (R120). -/
def cutShort (s : State) (code : Nat) : List StepResult :=
  if s.engine.running then [⟨s.engine.step, max 1 s.engine.attempt, .error, none, {}, some code⟩] else []

/-- The result of a step that itself ended in ERROR (R115). -/
def errorResult (s : State) (code : Nat) : StepResult :=
  ⟨s.engine.step, s.engine.attempt, .error, none, {}, some code⟩

/-- The annotations of an attempt without a reading, from the marks as they stand in `s` (R114). -/
def marksOf (s : State) : Annotations :=
  { stimulusLate := s.net.anyLate, clamped := s.stim.anyClamped, overrange := s.net.overrange }

/-- The unit open in `s` has ended with the result `res` of its last step: its record is closed with PASS when
every step has a PASS result and with FAIL otherwise, with the first fail code and the present millisecond; the
verdict is on top of the history and in a VERDICT NOTICE if the engine's share has room; the engine is in ENDING
or already IDLE, every output is at SAFE, and the nest is not left clamped (R116, R117, R118, R125). -/
def UnitEnded (s t : State) (res : StepResult) : Prop :=
  ∃ u v code, s.openRecord = some u ∧
    (v = .pass ∧ code = none ∧ (u.results ++ [res]).length = s.plan.stepCount ∧
        (∀ x ∈ u.results ++ [res], x.outcome = .pass) ∨
     v = .fail ∧ code = firstFailCode s.plan (u.results ++ [res]) ∧
        ¬((u.results ++ [res]).length = s.plan.stepCount ∧ ∀ x ∈ u.results ++ [res], x.outcome = .pass)) ∧
    t.store.records = s.store.records.map (fun r =>
      if r.verdict = .unfinished then
        { r with results := r.results ++ [res], finish := some t.ms, verdict := v, firstFail := code }
      else r) ∧
    t.history = ((if v = .pass then HistoryEntry.pass else .fail) :: s.history).take 8 ∧
    (t.engine.state = .ending ∨ t.engine.state = .idle) ∧ t.StimulusAtRest ∧ nestClamped t.nest.state = false ∧
    (txCount s.rbi.queue .engine < 2 →
      t.Queues (.verdictNotice (if v = .pass then 1 else 2) (code.getD 0) (s.nest.fixture.getD 0)))

/-- The class of a reading against the window of the step the engine runs (R106, R107). -/
def classNow (s : State) (rd : Reading) : ReadingClass := classify (s.plan.windowOf s.stepNow) rd

/-- The reading does not bring the settle count to S, so the attempt goes on (R108). -/
def GoesOn (s : State) (rd : Reading) : Prop :=
  ¬(classNow s rd = .pass ∧ s.stepNow.count ≤ s.engine.count + 1)

/-- The engine has taken a reading that does not end its attempt: it is the last reading with its class, and a
PASS has raised the settle count, any other class set it to 0 (R107, R108). -/
def Counted (s t : State) (rd : Reading) : Prop :=
  t.engine = { s.engine with last := some (rd, classNow s rd),
                             count := if classNow s rd = .pass then s.engine.count + 1 else 0 } ∧
  t.store = s.store ∧ t.nest = s.nest ∧ t.stim = s.stim

/-- The qualifying edges that the timing cell of a COUNT has had at the present tick (R77, R80, R87). -/
def EdgesNow (t : State) : AcqSource → Nat
  | .count c =>
    let e := vecGet t.sense.edges (c - 4) ⟨0, 0⟩
    if e.tick = t.now then e.count else 0
  | _ => 0

/-- The slot holds a new acquisition of the source, its accumulators at zero, armed now (R82, R108); of a COUNT the
edges of the arming tick stand beside them (R87). -/
def ArmedAnew (t : State) (src : AcqSource) (gate n : Nat) : Prop :=
  ∃ b, t.sense.slot = some b ∧ b.forNest = false ∧ b.source = src ∧ b.gate = gate ∧ b.samples = n ∧
    b.armTick = t.now ∧ b.armMs = t.ms ∧ b.sum = 0 ∧ b.taken = 0 ∧ b.edges = 0 ∧ b.periods = 0 ∧ b.high = 0 ∧
    b.before = EdgesNow t src

/-- A prompt of the nest stands in the Prompt Queue (R33, R38, R165). -/
def NestPrompt (t : State) (message : Nat) (auto : AutoComplete) : Prop :=
  ∃ e ∈ t.prompts.entries, e.source = .nest ∧ e.kind = 2 ∧ e.message = message ∧ e.param = none ∧
    e.timeout = none ∧ e.auto = auto

/-- The nest has entered FAULT with a code, the valve OFF, the clamp timer stopped and the FAULT prompt queued;
a unit open in `s` has been aborted with the code (R38). -/
def Faulted (s t : State) (code : Nat) : Prop :=
  t.nest.state = .fault ∧ t.nest.fault = some code ∧ t.nest.clampTimer = none ∧
  (s.nest.state ≠ .fault → t.nest.valve = false) ∧ NestPrompt t code .none ∧
  (s.openRecord.isSome = true → AbortedWith s t code (cutShort s code))

/-- The first step of the plan waits out a dwell of span code `dw` before anything else (R104). -/
def StartsWithDwell (s : State) (dw : Nat) : Prop := (s.plan.step 0).scene = none ∧ (s.plan.step 0).dwell = some dw

/-- Step 0 has begun and stands in its dwell, the nest in TESTING (R102 to R104). -/
def Begun (t : State) (dw : Nat) : Prop :=
  t.nest.state = .testing ∧ t.nest.valve = true ∧ t.nest.clampTimer = none ∧ t.engine.state = .dwell ∧
  t.engine.step = 0 ∧ t.engine.attempt = 1 ∧ t.engine.count = 0 ∧ t.engine.last = none ∧
  t.engine.dwell = some (t.now + spanMs dw * 16000)

/-- Whether a contact check is due at CLAMPED, pin wear and clamp counter standing at `w` and `n` (R28). -/
def CheckOwed (s : State) (p : RackParams) (w n : Nat) : Prop :=
  s.nest.forced = true ∨ p.interval ≤ n ∨ s.nest.suspect = true ∨ (p.wearLimit ≠ 0 ∧ p.wearLimit ≤ w)

/-- The background and monitor reading that cell `c` forms at an instant from its latest samples (R78). -/
def BackgroundOf (s : State) (c : Nat) : Reading :=
  let l := vecGet s.sense.samples c []
  let x := l.sum * cellFullScale c (s.plan.cellSetup c)
  .value (roundHalfUp x 65520) (decide (x % 65520 ≠ 0)) (decide (4095 ∈ l)) false

/-- The contact check has taken the reading `rd` of its pair `r` (R29 to R31). A PASS leads to the next pair,
its drive and its wait, the channel under test back at SAFE, or through READY to step 0 once every pair has passed;
any other class starts the reseat (check forced set whatever called for the check, assumption 44), or with the
reseat already taken enters FAULT 902. -/
def ContactTaken (s t : State) (r : ContactPair) (w : Window) (rd : Reading) : Prop :=
  (∀ i r', classify w rd = .pass → s.plan.pairFrom (s.nest.position + 1) = some (i, r') →
    t.nest.state = .contacting ∧ t.nest.position = i ∧ t.nest.contact = .waiting (t.now + 10 * 16000) ∧
    t.stim.test = some r'.channel ∧ t.nest.counter = s.nest.counter ∧ t.nest.forced = s.nest.forced ∧
    (s.stim.test = some r.channel → r.channel < 16 → r.channel ≠ r'.channel → (t.channel r.channel).AtRest)) ∧
  (∀ dw, classify w rd = .pass → s.plan.pairFrom (s.nest.position + 1) = none → s.openRecord.isSome = true →
    s.engine.state = .idle → StartsWithDwell s dw → s.nest.clampTimer = none →
    Begun t dw ∧ t.nest.counter = 0 ∧ t.nest.forced = false) ∧
  (∀ p, classify w rd ≠ .pass → s.nest.reseat = false → s.join.params = some p → s.nest.clampOpen.level = false →
    t.nest.state = .contacting ∧ t.nest.reseat = true ∧ t.nest.forced = true ∧ t.nest.valve = false ∧
    t.nest.contact = .opening ∧ t.StimulusAtRest ∧
    t.nest.clampTimer = some (t.now + spanMs p.clampTimeout * 16000)) ∧
  (classify w rd ≠ .pass → s.nest.reseat = true → Faulted s t 902)

/-- The station as the ATTEMPT of the next step finds it: the step that ended left a PASS result in the open
record (R103, R115, R116). -/
def PassRecorded (s t : State) : Prop :=
  t.store.records = s.store.records.map (fun r =>
    if r.verdict = .unfinished then
      { r with results := r.results ++ [⟨s.engine.step, s.engine.attempt, .pass, none, marksOf s, none⟩] }
    else r)

/-- A scene applied under a holding of `h` has completed (R52, R154): W is the draw, a surplus is RETURNING with its
RELEASE queued (by a Claim Unit that has no frame of the budget queued and no retry timer), the state is IDLE
otherwise, and the engine, `e` before, stands in the dwell of its step. -/
def SceneEnds (s t : State) (e : Engine) (h sc dw : Nat) : Prop :=
  let d := s.plan.draw sc
  t.claims.budget.want = d ∧ t.claims.budget.wait = none ∧ t.stim.request = none ∧
  t.stim.app = (if d < h then .returningSurplus else .idle) ∧
  t.engine = { e with state := .dwell, dwell := some (t.now + spanMs dw * 16000) } ∧
  (d < h → s.claims.silent = false → s.view.window = none → claimEntry s.rbi.queue .budget = none →
    s.claims.budget.retry = none → t.Queues (.release .budget (h - d)))

/-- Channel `o` is as it was in `s`, but for its CLAMPED flag. -/
def Kept (s t : State) (o : Nat) : Prop := t.channel o = { s.channel o with clamped := (t.channel o).clamped }

/-- The channels outside `c` that no source drives are as they were. -/
def OthersKept (s t : State) (c : Nat) : Prop :=
  ∀ o, o < 16 → o ≠ c → (o = 0 ∨ 5 ≤ o ∨ (s.plan.channelSetup o).source ≠ 1) → Kept s t o

/-- What the items of a scene of one item, of an empty REPLACE scene and of scene 0 do to the channels and the
network entries (R44 to R46, R49, R51, R56, R62). -/
def ItemsApplied (s t : State) (sc : Nat) (rep : Bool) : Prop :=
  (sc = 0 → (∀ c, c < 16 → (t.channel c).AtRest) ∧ t.stim.overdraw = 0 ∧
    (∀ e ∈ t.net.entries.toList, e.enabled = false)) ∧
  (sc ≠ 0 → rep = true → s.plan.itemsOf sc = [] →
    (∀ c, c < 16 → (t.channel c).setpoint = 0 ∧
      (c ≤ 8 → (c = 0 ∨ 5 ≤ c ∨ (s.plan.channelSetup c).source ≠ 1) → (t.channel c).ramp = none) ∧
      ((c = 0 ∨ 5 ≤ c) → (t.channel c).oneShot = (if 9 ≤ c then none else (s.channel c).oneShot)) ∧
      ((c = 0 ∨ (5 ≤ c ∧ c ≤ 8)) → (t.channel c).code = 0) ∧
      (1 ≤ c → c ≤ 4 → (s.plan.channelSetup c).source = 1 → (t.channel c).derRun = false ∧ (t.channel c).active = false) ∧
      (1 ≤ c → c ≤ 4 → (s.plan.channelSetup c).source ≠ 1 → (s.plan.channelSetup c).reload = 0 →
        (s.channel c).run.isSome = true → (t.channel c).run = (s.channel c).run ∧ (t.channel c).pend = .stop)) ∧
    (∀ e ∈ t.net.entries.toList, e.enabled = false)) ∧
  (∀ c v ramp duty os, sc ≠ 0 → rep = false → s.plan.itemsOf sc = [.channel c v ramp duty os] → c < 16 →
    OthersKept s t c ∧
    (9 ≤ c → v ≤ 2 →
      t.channel c = { s.channel c with setpoint := if v = 0 then 0 else 1,
                                       oneShot := if v = 2 then some (t.now + spanMs os * 16000) else none,
                                       clamped := (t.channel c).clamped }) ∧
    (c = 0 ∨ (5 ≤ c ∧ c ≤ 8) →
      let fs := if c = 0 ∨ (s.plan.channelSetup c).levelKind = 0 then 16000 else 1000
      (ramp = none → (t.channel c).setpoint = min v fs ∧ (t.channel c).code = roundHalfUp (min v fs * 4095) fs ∧
        (t.channel c).ramp = none ∧ (fs < v → (t.channel c).clamped = true)) ∧
      (∀ sp, ramp = some sp → (t.channel c).setpoint = (s.channel c).setpoint ∧ (t.channel c).code = (s.channel c).code ∧
        (t.channel c).ramp = some ⟨(s.channel c).setpoint, min v fs, max 1 ((spanMs sp + 9) / 10), 0, t.now⟩)) ∧
    (1 ≤ c → c ≤ 4 → (s.plan.channelSetup c).source ≠ 1 → ramp = none → 10 ≤ v → v ≤ 100000000 →
      (s.channel c).run = none →
      let per := roundHalfUp 16000000000 v
      let hi := max 1 (min (per - 1) (roundHalfUp (per * duty) 10000))
      (t.channel c).setpoint = v ∧ (t.channel c).run = some ⟨per, hi, t.now, true⟩ ∧ (t.channel c).active = true) ∧
    (1 ≤ c → c ≤ 4 → (s.plan.channelSetup c).source = 1 →
      (t.channel c).setpoint = v ∧ (t.channel c).derRun = decide (v ≠ 0))) ∧
  (∀ k action freeze bad ov, sc ≠ 0 → rep = false → s.plan.itemsOf sc = [.network k action freeze bad ov] → k < 24 →
    s.net.port ≠ .free →
    OthersKept s t 16 ∧
    let e := vecGet s.net.entries k NetRun.reset
    let f := vecGet t.net.entries k NetRun.reset
    (action = 0 → f.enabled = true ∧ f.freeze = freeze ∧ f.badChecksum = bad ∧ f.override = ov ∧
      (e.enabled = true → f.due = e.due ∧ f.pend = e.pend ∧ f.alive = e.alive) ∧
      (e.enabled = false → f.pend = some t.ms ∧ f.due = some (t.ms + BitVec.ofNat 32 (s.plan.entryPeriod k)) ∧
        f.alive = 0)) ∧
    (action = 1 → f.enabled = false ∧ f.due = none ∧ f.pend = none ∧ f.alive = e.alive))

/-- The application of scene `sc` under a holding of `h` (R51, R52, R154): its items, the applied scene, and the
completion at this event where no ramp runs afterwards; with a ramp running the state is RAMPING, W the whole
holding, and the engine, `e` before, still in APPLYING. -/
def SceneApplied (s t : State) (e : Engine) (h sc : Nat) (rep : Bool) (dw : Nat) : Prop :=
  ItemsApplied s t sc rep ∧ t.stim.applied = sc ∧ t.stim.request = none ∧
  ((∀ c, c < 16 → (t.channel c).ramp = none) → SceneEnds s t e h sc dw) ∧
  ((∃ c, c < 16 ∧ (t.channel c).ramp.isSome = true) →
    t.stim.app = .ramping ∧ t.claims.budget.want = h ∧ t.engine = { e with state := .applying })

/-- A PROMPT ANSWER of a kind and a value fits a POSTED entry: the kinds agree, a CONFIRM is YES 1 or NO 0, a DONE
is 1, and a VALUE is any (R168, R194). -/
def Fits (e : PromptEntry) (kind v3 v2 v1 v0 : Byte) : Prop :=
  e.kind = kind.toNat ∧
  ((kind = 0 ∧ v3 = 0 ∧ v2 = 0 ∧ v1 = 0 ∧ v0.toNat ≤ 1) ∨ kind = 1 ∨
   (kind = 2 ∧ v3 = 0 ∧ v2 = 0 ∧ v1 = 0 ∧ v0 = 1))

/-- The number that four payload bytes hold in two's complement (R190). -/
def signedBytes (v3 v2 v1 v0 : Byte) : Int :=
  let n := v3.toNat * 16777216 + v2.toNat * 65536 + twoBytes v1 v0
  if n < 2147483648 then (n : Int) else (n : Int) - 4294967296

/-- The Prompt Queue's timer, its pending withdrawal and its POSTED entry as they were. -/
def PromptsKept (s t : State) : Prop :=
  t.prompts.timer = s.prompts.timer ∧ t.prompts.withdrawal = s.prompts.withdrawal ∧ t.postedEntry = s.postedEntry

/-- The exchanges with the panel, the gantry and the rest of the rack stand as they did: the prompts (none is added
or removed), the gantry
request with its tag counter, the wants of the gantry and of budget, the budget recorded at the opening of a window,
and, with a port that is not FREE, the whole Network Schedule Unit. -/
def ExchangesKept (s t : State) : Prop :=
  PromptsKept s t ∧ t.prompts.entries.map (·.source) = s.prompts.entries.map (·.source) ∧
  t.claims.request = s.claims.request ∧ t.claims.tag = s.claims.tag ∧
  t.claims.silent = s.claims.silent ∧ t.claims.gantry.want = s.claims.gantry.want ∧
  t.claims.budget.want = s.claims.budget.want ∧ t.claims.budget.opened = s.claims.budget.opened ∧
  (s.net.port ≠ .free → t.net = s.net)

/-- No event reaches the nest's prompts or the engine, and the blocks between the line and the nest stay as they
are, but for the Sense Unit. -/
def RestUnchanged (s t : State) : Prop :=
  t.nest = s.nest ∧ t.stim = s.stim ∧ t.capture = s.capture ∧ t.engine = s.engine ∧ t.store = s.store ∧
  t.history = s.history

/-- The frame of the station on the line is `b`, and `d` is its delivery under kind `k` (R132). -/
def OwnDelivery (s : State) (b : TxBody) (k : Nat) (d : Delivery) : Prop :=
  (∃ start, s.ownOnLine = some (start, b)) ∧ b.frame s.rbi.address = deliveryFrame k d

end Sys2Proof.Stated

open Sys2Proof.Stated

/-! ## The step (the block's queue of commands) -/

/-- A step carries out the command at the front of the queue on the state with the queue's rest. -/
def Obligations.StepRunsTheFrontCommand : Prop :=
  ∀ (c : Instr) (rest : List Instr) (s : State), s.pending = c :: rest →
    step s = exec c { s with pending := rest }

/-- What every command but COLD_RESET keeps: the commands that wait behind it, the own address and the part
revision, the rack parameters once they are present, value by value (R186), and the millisecond clock once it
counts (R183, R188); and at least its own ticks pass (the model's choice, assumption 1). That present
parameters go with a join state after AWAITING PARAMETERS, or with CONFLICT, is kept too (R186). -/
def Obligations.WhatEveryCommandKeeps : Prop :=
  ∀ (c : Instr) (s t : State) (dt : Nat), ticksOf c = some dt → exec c s = .next t →
    t.pending = s.pending ∧ s.now + dt ≤ t.now ∧
    t.pins.straps = s.pins.straps ∧ t.pins.revision = s.pins.revision ∧ t.rbi.address = s.rbi.address ∧
    (s.ParamsStand → t.ParamsStand ∧ ∀ p, s.join.params = some p → t.join.params = some p) ∧
    (∀ k, s.join.clockStart = some k → t.join.clockStart = some k)

/-- A command whose timer is stopped, whose deglitch, gate, COUNT interval, NETFIELD wait, qualify timer, ramp,
one-shot or period does not run, whose LEVEL samples are not all taken, or whose self-check, plan validation, clock
or own frame is not under way, lets its ticks pass and changes nothing else (the model's choice, assumption 2). -/
def Obligations.StoppedTimersLetTimePass : Prop :=
  ∀ (s : State) (dt : Nat),
    (s.join.checking = false → ∀ outputs, exec (.selfCheckEnd ⟨dt, outputs⟩) s = .next (s.elapse dt)) ∧
    (s.join.announce = none → exec (.announceTimerExpiry dt) s = .next (s.elapse dt)) ∧
    (s.join.rebuildTimer = none → exec (.rebuildTimerExpiry dt) s = .next (s.elapse dt)) ∧
    (s.nest.clampTimer = none → exec (.clampTimeout dt) s = .next (s.elapse dt)) ∧
    ((∀ k, s.nest.contact ≠ .waiting k) → exec (.contactWaitExpiry dt) s = .next (s.elapse dt)) ∧
    (s.engine.dwell = none → exec (.dwellExpiry dt) s = .next (s.elapse dt)) ∧
    (s.engine.settle = none → exec (.settleTimeout dt) s = .next (s.elapse dt)) ∧
    (s.prompts.timer = none → exec (.promptTimeout dt) s = .next (s.elapse dt)) ∧
    (s.claims.panel.wait = none → exec (.resourceWaitExpiry dt .panel) s = .next (s.elapse dt)) ∧
    (s.claims.gantry.wait = none → exec (.resourceWaitExpiry dt .gantry) s = .next (s.elapse dt)) ∧
    (s.claims.budget.wait = none → exec (.resourceWaitExpiry dt .budget) s = .next (s.elapse dt)) ∧
    ((∀ tag k, s.claims.request ≠ .outstanding tag k) → exec (.gantryResultTimeout dt) s = .next (s.elapse dt)) ∧
    (s.claims.panel.retry = none → exec (.retryTimerExpiry dt .panel) s = .next (s.elapse dt)) ∧
    (s.claims.gantry.retry = none → exec (.retryTimerExpiry dt .gantry) s = .next (s.elapse dt)) ∧
    (s.claims.budget.retry = none → exec (.retryTimerExpiry dt .budget) s = .next (s.elapse dt)) ∧
    (s.capture.arm = none → exec (.netfieldWaitExpiry dt) s = .next (s.elapse dt)) ∧
    ((∀ a, s.sense.slot = some a → a.phase ≠ .awaitingOpen ∧ a.phase ≠ .gateOpen) →
      exec (.gateTimeout dt) s = .next (s.elapse dt)) ∧
    ((∀ a, s.sense.slot = some a → a.phase ≠ .counting) → exec (.countIntervalEnd dt) s = .next (s.elapse dt)) ∧
    ((∀ a, s.sense.slot = some a → a.phase ≠ .sampling ∨ a.taken < a.samples) →
      exec (.levelSamplesComplete dt) s = .next (s.elapse dt)) ∧
    (∀ i : Fin 8, (vecGet s.sense.conditions i.val ⟨false, none⟩).timer = none →
      exec (.qualifyTimerExpiry dt i) s = .next (s.elapse dt)) ∧
    (∀ i : Fin 4, (vecGet s.sense.timing i.val (.at false)).endsAt = none →
      exec (.timingEdge dt i) s = .next (s.elapse dt)) ∧
    (∀ i : Fin 4, (vecGet s.sense.logic i.val (.at false)).endsAt = none →
      exec (.logicLevelTaken dt i) s = .next (s.elapse dt)) ∧
    (s.nest.partPresent.endsAt = none → exec (.partPresentChange dt) s = .next (s.elapse dt)) ∧
    (s.nest.clampClosed.endsAt = none → exec (.clampClosedChange dt) s = .next (s.elapse dt)) ∧
    (s.nest.clampOpen.endsAt = none → exec (.clampOpenChange dt) s = .next (s.elapse dt)) ∧
    (s.nest.guardClosed.endsAt = none → exec (.guardChange dt) s = .next (s.elapse dt)) ∧
    (s.join.clockStart = none → exec (.netScheduleExamination dt) s = .next (s.elapse dt)) ∧
    (s.handler.job = none → ∀ pins, exec (.sealValidationEnd ⟨dt, pins⟩) s = .next (s.elapse dt)) ∧
    (∀ ch, (s.channel ch.val).ramp = none → exec (.rampUpdate dt ch) s = .next (s.elapse dt)) ∧
    (∀ ch, (s.channel ch.val).oneShot = none → exec (.oneShotExpiry dt ch) s = .next (s.elapse dt)) ∧
    (∀ ch, (s.channel ch.val).run = none → exec (.periodStart dt ch) s = .next (s.elapse dt)) ∧
    (∀ ch, (∀ r, (s.channel ch.val).run = some r → r.inHigh = false) → exec (.highTimeEnd dt ch) s = .next (s.elapse dt)) ∧
    ((∀ b, s.rbi.bus ≠ .sending b) → exec (.bitClash dt) s = .next (s.elapse dt))

/-- The Rack View changes only at a delivery or a cold reset: queueing, sending, rejecting, purging or
withdrawing a frame changes no view (R144). Nor does a fall of W change the budget recorded at the opening of a window,
which R59 reads (assumption 42): of these commands only the entry to CONFLICT and a warm reset may (R153). The Plan
Store changes only there, at the end of a validation, and at the report of a rejected reply: the ACCEPT of a STATION RESET sets off the warm reset, and any reply lets a handler in
REPLY WAITING take the command that waits behind it (R1, R2, R5, R140, R142). -/
def Obligations.OnlyDeliveriesChangeViewAndPlan : Prop :=
  ∀ (c : Instr) (s t : State), isDelivery c = false → (∀ p, c ≠ .coldReset p) → exec c s = .next t →
    t.view = s.view ∧
    ((∀ dt, c ≠ .bitClash dt) → (∀ pt l, c ≠ .frameRejected pt l) → t.claims.budget.opened = s.claims.budget.opened) ∧
    ((∀ dt p, c ≠ .sealValidationEnd ⟨dt, p⟩) →
      (∀ dt p l start b, c = .frameRejected ⟨dt, p⟩ l → s.ownOnLine = some (start, b) → b.producer = .handler →
        (s.handler.state = .replyWaiting → s.handler.queue = []) ∧
        ∀ tag res, b = .accept 43 tag res → s.handler.state ≠ .resetting) →
      t.plan = s.plan)

/-! ## The Rack View -/

/-- CLAIM(PANEL) and CLAIM(GANTRY) of a station reaching an ACTIVE view (R145): no effect for the holder
or a waiter; granted at once while CLOSED with no holder and an empty list; appended otherwise. At most one
holder, and no station twice among the holder and the list: a claim keeps it, as every step does. -/
def Obligations.ClaimOfPanelOrGantry : Prop :=
  ∀ (s : State) (dt : Nat) (d : Delivery) (hi lo : Byte),
    Takes s dt (deliveryFrame 10 d) → FromStation d → s.view.active = true →
    (d.payload = [0, hi, lo] → ∃ t y, exec (.claim dt d) s = .next t ∧ t.view = { s.view with panel := y } ∧
      Claimed (s.view.window ≠ none) d.src.toNat s.view.panel y ∧ (s.view.panel.Fair → y.Fair)) ∧
    (d.payload = [1, hi, lo] → ∃ t y, exec (.claim dt d) s = .next t ∧ t.view = { s.view with gantry := y } ∧
      Claimed (s.view.window ≠ none) d.src.toNat s.view.gantry y ∧ (s.view.gantry.Fair → y.Fair))

/-- CLAIM(BUDGET, a) of a station reaching an ACTIVE view (R146), and a resource code or an amount that
the view ignores (R144, R191). -/
def Obligations.ClaimOfBudget : Prop :=
  ∀ (s : State) (dt : Nat) (d : Delivery) (code hi lo : Byte),
    Takes s dt (deliveryFrame 10 d) → FromStation d → s.view.active = true → d.payload = [code, hi, lo] →
    ∃ t, exec (.claim dt d) s = .next t ∧
      (3 ≤ code.toNat ∨ (code = 2 ∧ 4000 < twoBytes hi lo) → t.view = s.view) ∧
      (code = 2 → twoBytes hi lo ≤ 4000 →
        ((∃ a, (d.src.toNat, a) ∈ s.view.budgetList) ∨ twoBytes hi lo = 0 ∨
            s.view.total < s.view.held.getD (d.src.toNat - 1) 0 + twoBytes hi lo → t.view = s.view) ∧
        (¬(∃ a, (d.src.toNat, a) ∈ s.view.budgetList) → twoBytes hi lo ≠ 0 →
            s.view.held.getD (d.src.toNat - 1) 0 + twoBytes hi lo ≤ s.view.total →
          (s.view.window = none ∧ s.view.budgetList = [] ∧ twoBytes hi lo ≤ s.view.total - s.view.held.sum →
            t.view = { s.view with
              held := s.view.held.set (d.src.toNat - 1)
                        (s.view.held.getD (d.src.toNat - 1) 0 + twoBytes hi lo) }) ∧
          (s.view.window ≠ none ∨ s.view.budgetList ≠ [] ∨ s.view.total - s.view.held.sum < twoBytes hi lo →
            t.view = { s.view with budgetList := s.view.budgetList ++ [(d.src.toNat, twoBytes hi lo)] })))

/-- RELEASE of a station reaching an ACTIVE view (R147): the holder gives way to the head of the list, or
to none while the window is OPEN; a waiter leaves the list; held budget falls by the amount, to 0 at the
least, the station's entry is removed, and while CLOSED the list is served. A resource code above 2 or an amount above
4,000 is ignored (R144, R191). -/
def Obligations.ReleaseOfResource : Prop :=
  ∀ (s : State) (dt : Nat) (d : Delivery) (hi lo : Byte),
    Takes s dt (deliveryFrame 9 d) → FromStation d → s.view.active = true →
    (d.payload = [0, hi, lo] → ∃ t y, exec (.release dt d) s = .next t ∧ t.view = { s.view with panel := y } ∧
      Released (s.view.window ≠ none) d.src.toNat s.view.panel y) ∧
    (d.payload = [1, hi, lo] → ∃ t y, exec (.release dt d) s = .next t ∧ t.view = { s.view with gantry := y } ∧
      Released (s.view.window ≠ none) d.src.toNat s.view.gantry y) ∧
    (d.payload = [2, hi, lo] → twoBytes hi lo ≤ 4000 → ∃ t, exec (.release dt d) s = .next t ∧
      ServedIfClosed (s.view.window ≠ none)
        { s.view with held := s.view.held.set (d.src.toNat - 1)
                        (s.view.held.getD (d.src.toNat - 1) 0 - twoBytes hi lo),
                      budgetList := withoutEntry s.view.budgetList d.src.toNat } t.view) ∧
    (∀ code : Byte, d.payload = [code, hi, lo] → 3 ≤ code.toNat ∨ (code = 2 ∧ 4000 < twoBytes hi lo) →
      ∃ t, exec (.release dt d) s = .next t ∧ t.view = s.view)

/-- HOLDING of a station reaching an ACTIVE view (R150): nothing while CLOSED; while OPEN it restores
a holding where no one has taken it first, and a budget only as far as the total allows. A resource code above 2 or
an amount above 4,000 is ignored (R144, R191). -/
def Obligations.HoldingRestoresWhileOpen : Prop :=
  ∀ (s : State) (dt : Nat) (d : Delivery) (code hi lo : Byte),
    Takes s dt (deliveryFrame 8 d) → FromStation d → s.view.active = true → d.payload = [code, hi, lo] →
    ∃ t, exec (.holding dt d) s = .next t ∧
      (s.view.window = none → t.view = s.view) ∧
      (3 ≤ code.toNat ∨ (code = 2 ∧ 4000 < twoBytes hi lo) → t.view = s.view) ∧
      (s.view.window ≠ none →
        (code = 0 → t.view = { s.view with panel :=
          if s.view.panel.holder = none then ⟨some d.src.toNat, s.view.panel.waiting.erase d.src.toNat⟩
          else s.view.panel }) ∧
        (code = 1 → t.view = { s.view with gantry :=
          if s.view.gantry.holder = none then ⟨some d.src.toNat, s.view.gantry.waiting.erase d.src.toNat⟩
          else s.view.gantry }) ∧
        (code = 2 → twoBytes hi lo ≤ 4000 → t.view = { s.view with
          held := s.view.held.set (d.src.toNat - 1)
                    (min (twoBytes hi lo)
                      (s.view.total - (s.view.held.sum - s.view.held.getD (d.src.toNat - 1) 0))) }))

/-- An ATTENTION of a station that reaches an ACTIVE view, or the station's own (R144, R149): the resource state is
cleared, the window is OPEN with the sender as its opener, the view is ACTIVE, and the total, the streak and the
two flags keep their values; the rebuild timer starts with 20 ms for the own ATTENTION and with 200 ms for
another's (R151). A settled station, no longer silent, restates what it has (R158): where the window was CLOSED,
HOLDING for a panel or gantry held and wanted and for the smaller of W and the budget held; CLAIM for a panel or
gantry wanted and not held, and for W where no budget was held. What R59 reads while the window is OPEN, the budget
recorded as held, is that of the ATTENTION that found the window CLOSED (assumption 42). The ticks are those of assumptions 1 and 2. -/
def Obligations.AttentionOpensTheWindow : Prop :=
  ∀ (s : State) (dt : Nat) (d : Delivery),
    Takes s dt (deliveryFrame 2 d) → FromStation d → d.payload.length = 1 →
    (s.view.active = true ∨ d.src.toNat = s.rbi.address) →
    ∃ t, exec (.attention dt d) s = .next t ∧
      t.view = { s.view with active := true, panel := ⟨none, []⟩, gantry := ⟨none, []⟩,
                             held := List.replicate 24 0, budgetList := [], window := some d.src.toNat } ∧
      t.join.rebuildTimer =
        some (t.now + (if d.src.toNat = s.rbi.address then 20 else 200) * 16000) ∧
      (s.Settled → s.view.window = none → (s.claims.silent = false ∨ d.src.toNat = s.rbi.address) →
        let h := s.view.held.getD (s.rbi.address - 1) 0
        let w := s.claims.budget.want
        (s.claims.gantry.want = true →
          t.Queues (if s.view.gantry.holder = some s.rbi.address then .holding .gantry 0 else .claim .gantry 0)) ∧
        (s.claims.panel.want = true → s.postedEntry.isSome = true →
          t.Queues (if s.view.panel.holder = some s.rbi.address then .holding .panel 0 else .claim .panel 0)) ∧
        (min w h ≠ 0 → t.Queues (.holding .budget (min w h))) ∧
        (w ≠ 0 → h = 0 → t.Queues (.claim .budget w))) ∧
      t.claims.budget.opened =
        (if s.view.window = none then min s.claims.budget.want (s.view.held.getD (s.rbi.address - 1) 0)
         else s.claims.budget.opened)

/-- A REBUILD END that reaches an ACTIVE view (R152): naming the opener of an OPEN window it closes it, gives each
resource without a holder to the head of its list and serves the budget list; otherwise it has no effect on the
view. At a close after the own ATTENTION a station in REBUILDING has joined (R187): JOINED when its qualifier is
0, FAILED-JOINED otherwise, the rebuild timer stopped (R151), and the millisecond clock counting from this event
if it was not counting (R183). What the record held and the view no longer shows is lost (R160): budget aborts
an open unit with 904, the gantry one whose engine awaits its result, and a lost panel leaves no POSTED prompt,
timer or withdrawal. Every record becomes nothing. The ticks are those of assumptions 1 and 2. -/
def Obligations.RebuildEndClosesTheWindow : Prop :=
  ∀ (s : State) (dt : Nat) (d : Delivery) (o : Byte),
    Takes s dt (deliveryFrame 3 d) → FromStation d → d.payload = [o] → s.view.active = true →
    ∃ t, exec (.rebuildEnd dt d) s = .next t ∧
      (s.view.window = some o.toNat →
        Served { s.view with
            window := none,
            panel := if s.view.panel.holder = none then ⟨s.view.panel.waiting.head?, s.view.panel.waiting.tail⟩
                     else s.view.panel,
            gantry := if s.view.gantry.holder = none then ⟨s.view.gantry.waiting.head?, s.view.gantry.waiting.tail⟩
                      else s.view.gantry } t.view ∧
        t.join.rebuildTimer = none ∧
        (s.join.state = .rebuilding → s.claims.silent = false →
          t.join.state = (if s.join.qualifier = 0 then .joined else .failedJoined) ∧
          t.join.clockStart = some (s.join.clockStart.getD t.now)) ∧
        (let h := t.view.held.getD (s.rbi.address - 1) 0
         (h < s.claims.budget.record → s.openRecord.isSome = true → AbortedWith s t 904 (cutShort s 904)) ∧
         (s.claims.budget.record ≤ h → s.claims.gantry.record = true →
           t.view.gantry.holder ≠ some s.rbi.address → s.engine.state = .awaitResult → s.openRecord.isSome = true →
           AbortedWith s t 904 [errorResult s 904])) ∧
        (s.claims.panel.record = true → t.view.panel.holder ≠ some s.rbi.address →
          t.prompts.timer = none ∧ t.prompts.withdrawal = none ∧ t.postedEntry = none) ∧
        t.claims.panel.record = false ∧ t.claims.gantry.record = false ∧ t.claims.budget.record = 0 ∧
        t.claims.budget.opened = 0) ∧
      (s.view.window ≠ some o.toNat → t.view = s.view)

/-- FORCE RELEASE of the line node that reaches an ACTIVE view (R148): the station named ceases to hold and to wait,
and while CLOSED what it leaves passes on; a number outside 1..24 has no effect on the view. Naming the station
itself while W is above 0, it loses the budget: an open unit is aborted with 904 (R160; of a station that only waits
for budget this is assumption 59). The ticks are those of assumptions 1 and 2. -/
def Obligations.ForceReleaseTakesFromTheStationNamed : Prop :=
  ∀ (s : State) (dt : Nat) (d : Delivery) (o : Byte),
    Takes s dt (deliveryFrame 6 d) → d.src.toNat = 30 → d.dst = 0 → d.payload = [o] → s.view.active = true →
    ∃ t, exec (.forceRelease dt d) s = .next t ∧
      ((o.toNat = 0 ∨ 24 < o.toNat) → t.view = s.view) ∧
      (1 ≤ o.toNat → o.toNat ≤ 24 → ∃ p g,
        Forced (s.view.window ≠ none) o.toNat s.view.panel p ∧
        Forced (s.view.window ≠ none) o.toNat s.view.gantry g ∧
        ServedIfClosed (s.view.window ≠ none)
          { s.view with panel := p, gantry := g,
                        held := s.view.held.set (o.toNat - 1) 0,
                        budgetList := withoutEntry s.view.budgetList o.toNat } t.view) ∧
      (o.toNat = s.rbi.address → s.claims.budget.want ≠ 0 → s.openRecord.isSome = true →
        AbortedWith s t 904 (cutShort s 904))

/-- VERDICT NOTICE of a station that reaches an ACTIVE view (R177): FAIL raises the streak, up to 255, and
sets LINE STOPPED at the limit; PASS breaks the streak; ABORTED and codes the layout does not define
(R191) change nothing. -/
def Obligations.VerdictNoticeCountsTheStreak : Prop :=
  ∀ (s : State) (dt : Nat) (d : Delivery) (v c1 c0 fx : Byte) (p : RackParams),
    Takes s dt (deliveryFrame 11 d) → FromStation d → d.payload = [v, c1, c0, fx] → s.view.active = true →
    s.join.params = some p →
    ∃ t, exec (.verdictNotice dt d) s = .next t ∧
      (v = 1 → t.view = { s.view with streak := 0 }) ∧
      (v = 2 → t.view = { s.view with
          streak := min 255 (s.view.streak + 1),
          lineStopped := s.view.lineStopped ||
            (p.streakLimit != 0 && decide (p.streakLimit ≤ min 255 (s.view.streak + 1))) }) ∧
      (v ≠ 1 → v ≠ 2 → t.view = s.view)

/-- RACK HALT of the panel or the line node that reaches an ACTIVE view (R148, R179): HALTED is set, both holders
become none, the lists are emptied, every held amount becomes 0; the window, the streak and LINE STOPPED keep
their values. A clamped nest is HELD for the halt with its valve as it was (R36), an open unit is aborted with
905, no POST, WITHDRAW or MEASURE REQUEST is left queued (R133), the gantry request and the records are none
(R161), and no step prompt, prompt timer or withdrawal is left (R173). LINE RESUME of the line node (R181): both
flags clear and the streak 0, the resource state and the window unchanged; the nest loses the halt reason and,
HELD for it alone, is released (R36, R37). The ticks are those of assumptions 1 and 2. -/
def Obligations.HaltAndResumeActOnTheView : Prop :=
  ∀ (s : State) (dt : Nat) (d : Delivery), d.dst = 0 → d.payload = [] → s.view.active = true →
    (Takes s dt (deliveryFrame 4 d) → (d.src.toNat = 29 ∨ d.src.toNat = 30) →
      ∃ t, exec (.rackHalt dt d) s = .next t ∧
        t.view = { s.view with halted := true, panel := ⟨none, []⟩, gantry := ⟨none, []⟩,
                               held := List.replicate 24 0, budgetList := [] } ∧
        (nestClamped s.nest.state = true →
          t.nest.state = .held ∧ t.nest.holdHalt = true ∧ t.nest.holdGuard = false ∧ t.nest.valve = s.nest.valve ∧
          t.nest.clampTimer = none) ∧
        (s.nest.state = .held → t.nest.state = .held ∧ t.nest.holdHalt = true ∧ t.nest.holdGuard = s.nest.holdGuard) ∧
        (s.openRecord.isSome = true → AbortedWith s t 905 (cutShort s 905)) ∧
        (∀ e ∈ t.rbi.queue, e.body.producer ≠ .promptQueue ∧ e.body.producer ≠ .gantry) ∧
        t.claims.request = .none ∧ t.claims.panel.record = false ∧ t.claims.gantry.record = false ∧
        t.claims.budget.record = 0 ∧ t.claims.budget.opened = 0 ∧ t.prompts.timer = none ∧ t.prompts.withdrawal = none ∧
        (∀ e ∈ t.prompts.entries, e.source = .nest)) ∧
    (Takes s dt (deliveryFrame 5 d) → d.src.toNat = 30 →
      ∃ t, exec (.lineResume dt d) s = .next t ∧
        t.view = { s.view with streak := 0, lineStopped := false, halted := false } ∧
        t.nest.holdHalt = false ∧
        (s.nest.state ≠ .held ∨ s.nest.holdGuard = true → s.Settled →
          t.nest = { s.nest with holdHalt := false } ∧ t.engine = s.engine ∧ t.store = s.store) ∧
        (∀ p, s.nest.state = .held → s.nest.holdGuard = false → s.nest.clampOpen.level = false →
          s.join.params = some p →
          t.nest.state = .releasing ∧ t.nest.valve = false ∧
          t.nest.clampTimer = some (t.now + spanMs p.clampTimeout * 16000)))

/-- A CLAIM, RELEASE, HOLDING or VERDICT NOTICE that reaches the station changes, beside the view, no
command, plan, pin, parameter or join state; at a settled station it changes no nest, channel, capture,
acquisition, engine, record or history (R144 to R150, R177). An INACTIVE view applies no view frame of another
node (R144). -/
def Obligations.ViewFramesLeaveTheBlocksAlone : Prop :=
  ∀ (s t : State) (dt : Nat) (d : Delivery) (c : Instr), exec c s = .next t →
    (((c = .claim dt d ∧ Takes s dt (deliveryFrame 10 d)) ∨ (c = .release dt d ∧ Takes s dt (deliveryFrame 9 d)) ∨
      (c = .holding dt d ∧ Takes s dt (deliveryFrame 8 d)) ∨
      (c = .verdictNotice dt d ∧ Takes s dt (deliveryFrame 11 d))) →
      t.plan = s.plan ∧ t.handler = s.handler ∧ t.pins = s.pins ∧ t.join.params = s.join.params ∧
      t.join.state = s.join.state ∧ (s.Settled → CoreUnchanged s t)) ∧
    ((c = .claim dt d ∨ c = .release dt d ∨ c = .holding dt d ∨ c = .attention dt d ∨ c = .rebuildEnd dt d ∨
      c = .forceRelease dt d ∨ c = .verdictNotice dt d ∨ c = .rackHalt dt d ∨ c = .lineResume dt d) →
      s.view.active = false → d.src.toNat ≠ s.rbi.address → t.view = s.view)

/-! ## Resets and the join -/

/-- COLD_RESET: every block at the value the spec gives for a cold reset (R1, R20, R43, R61, R73, R79 to R82,
R97, R99, R122, R125, R128, R133, R138, R143, R153, R164, R175, R183), every deglitched level that of its pin;
straps 1..24 become the address and start SELF-CHECK with the loopback request (R184), any other value is BAD
ADDRESS. -/
def Obligations.ColdResetPutsEveryBlockBack : Prop :=
  ∀ (s : State) (p : ResetPins), ∃ t, exec (.coldReset p) s = .next t ∧
    (1 ≤ p.straps.toNat → p.straps.toNat ≤ 24 →
      t.rbi.address = p.straps.toNat ∧ t.rbi.bus = .settling ∧ t.join.state = .selfCheck ∧
      t.net.port = .loopback ∧ t.net.request = some .loopback) ∧
    ((p.straps.toNat = 0 ∨ 24 < p.straps.toNat) →
      t.rbi.bus = .silent ∧ t.join.state = .badAddress ∧ t.net.port = .free) ∧
    t.rbi.queue = [] ∧ t.handler = ⟨.ready, [], none, none⟩ ∧
    (t.view.active = false ∧ t.view.panel = ⟨none, []⟩ ∧ t.view.gantry = ⟨none, []⟩ ∧
      t.view.held = List.replicate 24 0 ∧ t.view.budgetList = [] ∧ t.view.window = none ∧
      t.view.streak = 0 ∧ t.view.lineStopped = false ∧ t.view.halted = false) ∧
    (∀ x, x = t.claims.panel ∨ x = t.claims.gantry →
      x.want = false ∧ x.retry = none ∧ x.wait = none ∧ x.reported = false ∧ x.record = false) ∧
    (t.claims.budget.want = 0 ∧ t.claims.budget.retry = none ∧ t.claims.budget.wait = none ∧
      t.claims.budget.reported = false ∧ t.claims.budget.record = 0 ∧ t.claims.budget.opened = 0 ∧
      t.claims.request = .none ∧ t.claims.tag = 0 ∧ t.claims.silent = true) ∧
    (t.plan.state = .empty ∧ t.plan.id = none ∧ t.plan.written = 0 ∧ t.plan.channelSetups = [] ∧
      t.plan.cellSetups = [] ∧ t.plan.conditions = [] ∧ t.plan.windows = [] ∧ t.plan.heads = [] ∧
      t.plan.items = [] ∧ t.plan.entries = [] ∧ t.plan.bindings = [] ∧ t.plan.captures = [] ∧
      t.plan.pairs = [] ∧ t.plan.steps = []) ∧
    (t.nest.state = .empty ∧ t.nest.valve = false ∧ t.nest.fixture = none ∧ t.nest.wear = 0 ∧
      t.nest.counter = 0 ∧ t.nest.forced = false ∧ t.nest.reseat = false ∧ t.nest.suspect = false ∧
      t.nest.holdGuard = false ∧ t.nest.holdHalt = false ∧ t.nest.fault = none ∧ t.nest.clampTimer = none ∧
      t.nest.partPresent = ⟨p.partPresent, p.partPresent, none⟩ ∧
      t.nest.clampClosed = ⟨p.clampClosed, p.clampClosed, none⟩ ∧
      t.nest.clampOpen = ⟨p.clampOpen, p.clampOpen, none⟩ ∧
      t.nest.guardClosed = ⟨p.guardClosed, p.guardClosed, none⟩) ∧
    t.StimulusAtRest ∧ t.stim.overdraw = 0 ∧ (∀ ch ∈ t.stim.channels.toList, ch.clamped = false) ∧
    (∀ e ∈ t.net.entries.toList, e = ⟨false, none, none, 0, false, false, none, false⟩) ∧ t.net.overrange = false ∧
    (∀ e ∈ t.capture.entries.toList, e = ⟨[], none⟩) ∧ t.capture.arm = none ∧
    t.sense.flags.toList = List.replicate 4 false ∧ t.sense.slot = none ∧
    t.sense.conditions.toList = List.replicate 8 ⟨false, none⟩ ∧
    (∀ i, i < 4 →
      vecGet t.sense.timing i (.at false) = ⟨p.timing.getLsbD i, p.timing.getLsbD i, none⟩ ∧
      vecGet t.sense.logic i (.at false) = ⟨p.logic.getLsbD i, p.logic.getLsbD i, none⟩) ∧
    t.engine = ⟨.idle, 0, 0, 0, none, none, none⟩ ∧
    t.store.records = [] ∧ t.store.counter = 0 ∧ t.history = List.replicate 8 .empty ∧
    t.prompts = ⟨[], none, none, 0⟩ ∧
    t.join.params = none ∧ t.join.qualifier = 0 ∧ t.join.detail = 0 ∧ t.join.announce = none ∧
    t.join.rebuildTimer = none ∧ t.join.clockStart = none ∧ t.pins.revision = s.pins.revision ∧ t.pending = s.pending

/-- A station right after reset is safe. -/
def Obligations.ResetIsSafe : Prop := State.reset.Safe

/-- SELF_CHECK_END: at 40 ms the four checks, the first over the outputs as read back, are judged in their order and
the qualifier and detail are those of the first that fails (R184); the nest derives its state from its sensors
(R22); the join machine enters ANNOUNCING with ADDRESS TAKEN queued (R185). The outputs read back as an operand, and
the level of a SWITCH output, are assumption 41, the ticks assumptions 1 and 2. -/
def Obligations.SelfCheckJudgesAndAnnounces : Prop :=
  ∀ (s : State) (dt : Nat) (outputs : Vector (BitVec 12) 16), s.join.checking = true → s.join.state = .selfCheck → s.nest.state = .empty →
    s.nest.fault = none → s.store.records = [] → txCount s.rbi.queue .joinView < 2 → s.Settled →
    ∃ t, exec (.selfCheckEnd ⟨dt, outputs⟩) s = .next t ∧ t.now = max (s.now + dt) 640000 ∧
      t.join.state = .announcing ∧ t.join.checking = false ∧
      t.Queues (.addressTaken t.join.qualifier t.join.detail s.pins.revision) ∧
      (∀ c, c < 16 → ¬OutputSafe s outputs c → (∀ b, b < c → OutputSafe s outputs b) →
        t.join.qualifier = 1 ∧ t.join.detail = c) ∧
      ((∀ c, c < 16 → OutputSafe s outputs c) →
        (∀ c, c < 4 → ¬ReadsZero s c → (∀ b, b < c → ReadsZero s b) →
          t.join.qualifier = 2 ∧ t.join.detail = c) ∧
        ((∀ c, c < 4 → ReadsZero s c) →
          (s.nest.clampClosed.level = true → s.nest.clampOpen.level = true →
            t.join.qualifier = 3 ∧ t.join.detail = 0) ∧
          (¬(s.nest.clampClosed.level = true ∧ s.nest.clampOpen.level = true) →
            t.join.detail = 0 ∧ t.join.qualifier = if s.net.port = .loopback then 4 else 0))) ∧
      (s.nest.clampClosed.level = true → s.nest.clampOpen.level = true →
        t.nest.state = .fault ∧ t.nest.fault = some 907 ∧ t.nest.valve = false) ∧
      (s.nest.clampOpen.level = false → t.nest.state = .releasing ∧ t.nest.clampTimer = s.nest.clampTimer) ∧
      (s.nest.clampOpen.level = true → s.nest.clampClosed.level = false →
        t.nest.state = if s.nest.partPresent.level then .loaded else .empty)

/-- RACK PARAMETERS delivered in ANNOUNCING or AWAITING PARAMETERS (R186): the parameters are present, each
in its legal range, the total stands in the view, the announce timer stops, the ACCEPT carries the tag and
the clamped flag, ATTENTION is queued or owed, and the join state is REBUILDING. In every other join state
the frame is ignored. -/
def Obligations.RackParametersAreTakenInRange : Prop :=
  ∀ (s : State) (dt : Nat) (d : Delivery) (tag b1 b0 m1 m0 str sus int w2 w1 w0 cl wt gn : Byte),
    Takes s dt (deliveryFrame 20 d) → d.src.toNat = 30 → d.dst = 0 →
    d.payload = [tag, b1, b0, m1, m0, str, sus, int, w2, w1, w0, cl, wt, gn] →
    ∃ t, exec (.rackParameters dt d) s = .next t ∧
      ((s.join.state = .announcing ∨ s.join.state = .awaitingParameters) →
        t.join.state = .rebuilding ∧ t.join.announce = none ∧
        t.join.params = some (InRange (twoBytes b1 b0) (twoBytes m1 m0) str sus int
          (w2.toNat * 65536 + twoBytes w1 w0) cl wt gn) ∧
        t.view = { s.view with total := if twoBytes b1 b0 ≤ 4000 then twoBytes b1 b0 else 4000 } ∧
        (t.Queues .attention ∨ t.join.attentionDue = true) ∧
        (txCount s.rbi.queue .handler < 4 →
          t.Queues (.accept 20 tag
            (if twoBytes b1 b0 ≤ 4000 ∧ twoBytes m1 m0 ≤ 2000 ∧ str.toNat ≠ 1 ∧ str.toNat ≤ 15 ∧
                sus.toNat ≠ 1 ∧ sus.toNat ≤ 8 ∧ int.toNat ≠ 0 ∧ cl.toNat ≤ 127 ∧ wt.toNat ≤ 127 ∧
                gn.toNat ≤ 127 then 0 else 1)))) ∧
      (s.join.state ≠ .announcing → s.join.state ≠ .awaitingParameters →
        t.join.params = s.join.params ∧ t.join.state = s.join.state ∧ t.view = s.view ∧
        (s.Settled → CoreUnchanged s t))

/-- ADDRESS TAKEN (R185): the station's own, delivered in ANNOUNCING, leads to AWAITING PARAMETERS with the announce
timer at 1,000 ms; another station's is ignored. ANNOUNCE_TIMER_EXPIRY in AWAITING PARAMETERS leads back to
ANNOUNCING with a new ADDRESS TAKEN. REBUILD_TIMER_EXPIRY (R151): the timer stops, and with the window OPEN a
REBUILD END naming the view's opener is queued, or owed while the share is full. The ticks are those of
assumptions 1 and 2. -/
def Obligations.JoinAndRebuildTimersExpire : Prop :=
  ∀ (s : State) (dt : Nat),
    (∀ (d : Delivery) (start q e : Nat) (rev : Byte), s.ownOnLine = some (start, .addressTaken q e rev) →
      (TxBody.addressTaken q e rev).frame s.rbi.address = deliveryFrame 1 d → s.join.state = .announcing →
      ∃ t, exec (.addressTaken dt d) s = .next t ∧ t.join.state = .awaitingParameters ∧
        t.join.announce = some (t.now + 1000 * 16000)) ∧
    (∀ d : Delivery, s.rbi.bus ≠ .silent → d.src.toNat ≠ s.rbi.address → s.rbi.address < 32 →
      ∃ t, exec (.addressTaken dt d) s = .next t ∧ t.join.state = s.join.state ∧
        t.join.announce = s.join.announce ∧ t.view = s.view ∧ t.handler = s.handler ∧
        (s.Settled → CoreUnchanged s t)) ∧
    (∀ k : Nat, s.join.announce = some k → s.join.state = .awaitingParameters →
      txCount s.rbi.queue .joinView < 2 →
      ∃ t, exec (.announceTimerExpiry dt) s = .next t ∧ t.now = max (s.now + dt) k ∧
        t.join.state = .announcing ∧ t.join.announce = none ∧
        t.Queues (.addressTaken s.join.qualifier s.join.detail s.pins.revision)) ∧
    (∀ k : Nat, s.join.rebuildTimer = some k →
      ∃ t, exec (.rebuildTimerExpiry dt) s = .next t ∧ t.now = max (s.now + dt) k ∧ t.join.rebuildTimer = none ∧
        (∀ o, s.view.window = some o → t.Queues (.rebuildEnd o) ∨ t.join.rebuildEndDue = true))

/-- BIT_CLASH while SENDING, and a frame under the station's own address that the station did not send:
CONFLICT (R130, R137, R188). The join state is CONFLICT, the RBI SILENT, both queues are empty, every output
is at SAFE, the view, the plan and the clock are kept, the Claim Unit is silent, the announce and rebuild
timers stop, and an open unit is aborted with 904, its engine IDLE at once (the order of these effects is assumption
32, the frames that the station hears assumptions 8 and 10). A SILENT
station stays so until a cold reset: it takes no frame, and no delivery changes its view, plan, commands or join
state (R128, R137, R188). -/
def Obligations.ConflictSilencesTheStation : Prop :=
  (∀ (s : State) (dt : Nat) (c : Instr),
    ((c = .bitClash dt ∧ ∃ start, s.rbi.bus = .sending start) ∨
     (∃ f, c = .unroutedFrameDelivery dt f ∧ s.rbi.bus ≠ .silent ∧ f.src.toNat = s.rbi.address ∧
        s.Hears dt (41 + 8 * f.payload.length) ∧
        ∀ start b, s.ownOnLine = some (start, b) → b.frame s.rbi.address ≠ f)) →
    ∃ t, exec c s = .next t ∧ t.join.state = .conflict ∧ t.rbi.bus = .silent ∧ t.rbi.queue = [] ∧
      t.handler = ⟨.ready, [], none, none⟩ ∧ t.claims.silent = true ∧ t.view = s.view ∧ t.plan = s.plan ∧
      t.join.params = s.join.params ∧ t.join.qualifier = s.join.qualifier ∧
      t.join.clockStart = s.join.clockStart ∧ t.join.announce = none ∧ t.join.rebuildTimer = none ∧
      t.StimulusAtRest ∧
      (∀ r ∈ s.store.records, r.verdict = .unfinished →
        t.engine.state = .idle ∧ nestClamped t.nest.state = false ∧
        t.history = (.aborted :: s.history).take 8 ∧
        ∃ r' ∈ t.store.records, r'.seq = r.seq ∧ r'.verdict = .aborted ∧ r'.firstFail = some 904)) ∧
  (∀ (c : Instr) (s t : State), (∀ p, c ≠ .coldReset p) → s.rbi.bus = .silent → exec c s = .next t →
    t.rbi.bus = .silent ∧ t.view = s.view ∧
    (isDelivery c = true → t.plan = s.plan ∧ t.handler = s.handler ∧ t.join.state = s.join.state))

/-! ## The rack bus -/

/-- The bits of a frame spell the frame (R190, R192): reading the bits that a frame of at most 24 payload
bytes puts on the line gives the frame back, and the bits that are well formed are exactly those of such
frames, check included (R126, R127); that a length field of 25 to 31 is not well formed is the model's choice
(assumption 43). -/
def Obligations.FrameBitsReadBack : Prop :=
  (∀ f : Frame, f.payload.length ≤ 24 → frameOfBits (frameBits f) = f) ∧
  ∀ line : List Bool, wellFormedBits line = true ↔ ∃ f : Frame, f.payload.length ≤ 24 ∧ line = frameBits f

/-- BUS_IDLE in SETTLING (R128): after ten recessive bit times, 160 ticks, the RBI is IDLE with an empty
queue, or it is SENDING the frame at the head of the queue, marked as on the line, from this tick; where no block
has anything of its own to queue, that is the frame that stood at the head, the others behind it.
ARBITRATION_LOST while SENDING (R129): the RBI is RECEIVING, no frame is on the line, and the frames of the
Command Handler and of the Rack View stay queued; where no block has anything to queue, every frame keeps its place.
In IDLE it is the start bit of another node and leads to RECEIVING (the model's choice, assumption 8). The clauses
on t.now rest on assumptions 1 and 2. -/
def Obligations.IdleStartsAndLossKeepsTheFrame : Prop :=
  ∀ (s : State) (dt : Nat),
    (s.rbi.bus = .settling →
      ∃ t, exec (.busIdle dt) s = .next t ∧ t.now = max (s.now + dt) (s.rbi.settleFrom + 160) ∧
        ((t.rbi.bus = .idle ∧ t.rbi.queue = []) ∨
         (t.rbi.bus = .sending t.now ∧ ∃ b l, t.rbi.queue = ⟨b, true⟩ :: l)) ∧
        (NothingDue s →
          (s.rbi.queue = [] → t.rbi.bus = .idle ∧ t.rbi.queue = []) ∧
          (∀ e es, s.rbi.queue = e :: es → t.rbi.bus = .sending t.now ∧ t.rbi.queue = ⟨e.body, true⟩ :: es))) ∧
    (∀ start, s.rbi.bus = .sending start →
      ∃ t, exec (.arbitrationLost dt) s = .next t ∧ t.rbi.bus = .receiving ∧
        (∀ e ∈ t.rbi.queue, e.onLine = false) ∧
        (∀ e ∈ s.rbi.queue, e.body.producer = .handler ∨ e.body.producer = .joinView → t.Queues e.body) ∧
        (NothingDue s → t.rbi.queue = s.rbi.queue.map (fun e => ⟨e.body, false⟩))) ∧
    (s.rbi.bus = .idle → ∃ t, exec (.arbitrationLost dt) s = .next t ∧ t.rbi.bus = .receiving ∧
      (NothingDue s → t.rbi.queue = s.rbi.queue))

/-- FRAME_REJECTED (R131, R132). The station's own frame leaves the queue and is reported: a rejected CLAIM
starts its retry timer of 2 ms, and with the window CLOSED no other frame of its resource stands queued, and in any
case, but for the CLAIM of a new want, none but a RELEASE of what the want no longer needs (R155, R156, R159); a reply is gone and not sent
again, the handler, with no reply in its slot, as it was (R140). Another node's frame ends in SETTLING. Of one
received from its start bit the station drives the slot when it is not well formed, or is a command for it while its
queue holds 4; of one whose start bit came before settling began it does not (R128). The clauses on another node's
frame rest on assumptions 8, 12, 43 and 52, those on t.now on 1 and 2. -/
def Obligations.RejectedFramesAreReported : Prop :=
  ∀ (s : State) (dt : Nat) (pins : BitVec 6) (line : List Bool),
    (∀ (start : Nat) (r : Resource) (a : Nat), s.ownOnLine = some (start, .claim r a) →
      ∃ t, exec (.frameRejected ⟨dt, pins⟩ line) s = .next t ∧ t.claims.retryOf r = some (t.now + 2 * 16000) ∧
        t.rbi.rejectDriven = false ∧
        ((∀ e ∈ s.rbi.queue, e.onLine = false → e.body.producer ≠ .claimUnit r) →
          (s.view.window = none → ∀ e ∈ t.rbi.queue, e.body.producer ≠ .claimUnit r) ∧
          (s.Settled → s.claims.freshOf r = false → (r = .panel → ∀ x ∈ s.prompts.entries, x.state ≠ .queued) →
            ∀ e ∈ t.rbi.queue, e.body.producer = .claimUnit r → ∃ x, e.body = .release r x))) ∧
    (∀ (start : Nat) (b : TxBody) (es : List TxEntry), s.rbi.bus = .sending start → s.rbi.queue = ⟨b, true⟩ :: es →
      (∀ e ∈ es, e.onLine = false) → b.producer = .handler → s.handler.state ≠ .resetting → s.handler.slot = none →
      NothingDue s →
      ∃ t, exec (.frameRejected ⟨dt, pins⟩ line) s = .next t ∧ t.rbi.queue = es ∧ t.handler = s.handler ∧
        t.rbi.bus = .settling ∧ t.rbi.rejectDriven = false ∧ CoreUnchanged s t) ∧
    (s.rbi.bus = .settling ∨ s.rbi.bus = .receiving ∨ s.rbi.bus = .idle →
      ∃ t, exec (.frameRejected ⟨dt, pins⟩ line) s = .next t ∧ t.rbi.bus = .settling ∧ t.rbi.settleFrom = t.now ∧
        (s.Hears dt (line.length + 1) →
          (t.rbi.rejectDriven = true ↔
            wellFormedBits line = false ∨
            (let f := frameOfBits line
             (32 ≤ f.kind.toNat ∧ f.kind.toNat ≤ 43) ∧ f.src.toNat = 30 ∧ f.dst.toNat = s.rbi.address ∧
               4 ≤ s.handler.queue.length))) ∧
        (¬s.Hears dt (line.length + 1) → t.rbi.rejectDriven = false))

/-- A frame that no block of the station takes (R136), its kind unknown or handed to no block, its source or
destination not accepted for its kind, or its length not that of its kind (commands apart): it changes no block. At a
settled station the nest, the stimulus, the captures, the Sense Unit, the engine, the stores, the prompts and the
Claim Unit's exchanges stay as they are, and the network unit with them while its port is not FREE; what a block has
of its own to queue at the end of an event it queues here too. The RBI counts recessive bit times again (R128). The clauses on t.now rest on assumption 1. -/
def Obligations.UnroutedFrameChangesNoBlock : Prop :=
  ∀ (s : State) (dt : Nat) (f : Frame), s.rbi.bus ≠ .silent → s.rbi.address < 32 → f.src.toNat ≠ s.rbi.address →
    (¬Accepted s.rbi.address f ∨ (f.kind.toNat < 32 ∧ f.payload.length ≠ kindLength f.kind.toNat)) →
    ∃ t, exec (.unroutedFrameDelivery dt f) s = .next t ∧ t.now = s.now + dt ∧ t.view = s.view ∧
      t.handler = s.handler ∧ t.plan = s.plan ∧ t.join.state = s.join.state ∧ t.join.params = s.join.params ∧
      (s.Settled → CoreUnchanged s t ∧ ExchangesKept s t) ∧ t.rbi.bus = .settling ∧
      t.rbi.settleFrom = t.now

/-- Every step keeps the transmit queue in class order with each producer within its share (R133, R134), at
most 4 waiting commands (R138), at most 4 records of which only the newest may be OPEN (R122), and a history
of 8 entries (R125). -/
def Obligations.EveryStepKeepsQueuesAndStores : Prop :=
  ∀ (s t : State), s.StoresSound → step s = .next t → t.StoresSound

/-- In every active view the held budget of the 24 stations never exceeds the total, a resource has at most
one holder, no station stands twice at a resource, and every budget entry is of a station 1..24: every step keeps it
(R136, R143, R145, R146). -/
def Obligations.EveryStepKeepsTheViewSound : Prop :=
  ∀ (s t : State), s.ViewSound → step s = .next t → t.ViewSound

/-- Outside CONTACTING and TESTING no stimulus stands: every step keeps it (R56, R57). -/
def Obligations.EveryStepKeepsStimulusAtRestOutsideTest : Prop :=
  ∀ (s t : State), s.RestsOutsideTest → step s = .next t → t.RestsOutsideTest

/-- The valve is ON in CLAMPING, CLAMPED, CONTACTING, READY and TESTING and OFF in the other states, HELD and
the opening half of a reseat apart, and an acquisition of the nest stands only while its contact check awaits it:
every step keeps it (R23, R29, R30, R82). -/
def Obligations.EveryStepKeepsTheValveWithTheNest : Prop :=
  ∀ (s t : State), s.ValveSound → step s = .next t → t.ValveSound

/-! ## The commands of the line node -/

/-- COMMAND_DELIVERED to a handler that is not READY: the command joins the end of the queue, up to 4
commands, in the order of delivery (R138, R139). With 4 waiting, a delivery is one whose reject slot the station
drives, and it takes no command from it: the model's choice, assumption 11, since R131 has such a frame rejected. -/
def Obligations.CommandsWaitInOrder : Prop :=
  ∀ (s : State) (dt : Nat) (pins : BitVec 6) (f : Frame), s.Listening → s.Hears dt (41 + 8 * f.payload.length) →
    f.src.toNat = 30 → f.dst.toNat = s.rbi.address →
    32 ≤ f.kind.toNat → f.kind.toNat ≤ 43 →
    (s.handler.queue.length < 4 → s.handler.state ≠ .ready →
      ∃ t, exec (.commandDelivered ⟨dt, pins⟩ f) s = .next t ∧
        t.handler = { s.handler with queue := s.handler.queue ++ [⟨f.kind.toNat, f.payload⟩] } ∧
        t.plan = s.plan ∧ (s.Settled → CoreUnchanged s t)) ∧
    (4 ≤ s.handler.queue.length →
      ∃ t, exec (.commandDelivered ⟨dt, pins⟩ f) s = .next t ∧ t.handler = s.handler ∧ t.rbi.rejectDriven = true ∧
        t.plan = s.plan ∧ (s.Settled → CoreUnchanged s t))

/-- A command whose payload length is not that of its kind is refused ILLEGAL code 8 and handed to no owner
(R141), a UNIT START included; PLAN RECORD is not checked there. A station that has not joined refuses every command of the right
length but STATUS QUERY with NOT READY code 1 (R2, R3, R5, R121, R123 to R125, R39, R40, R189). -/
def Obligations.WrongLengthAndUnjoinedAreRefused : Prop :=
  ∀ (s : State) (dt k : Nat) (d : Delivery) (tag : Byte) (rest : List Byte), s.ReadyFor dt d →
    d.payload = tag :: rest →
    (((k = 32 ∧ rest.length ≠ 2) ∨ (k = 34 ∧ rest.length ≠ 5) ∨ (k = 36 ∧ rest.length ≠ 2) ∨
      (k = 37 ∧ rest.length ≠ 3) ∨ (k = 38 ∧ rest.length ≠ 2) ∨
      ((k = 39 ∨ k = 40 ∨ k = 41 ∨ k = 42 ∨ k = 43) ∧ rest.length ≠ 0)) →
      RefusedWith (commandOf k dt d) s k tag 2 8 0) ∧
    (∀ pins, rest.length ≠ 19 → RefusedWith (.unitStart dt pins d) s 35 tag 2 8 0) ∧
    (¬HasJoined s →
      ((k = 32 ∧ rest.length = 2) ∨ k = 33 ∨ (k = 34 ∧ rest.length = 5) ∨ (k = 36 ∧ rest.length = 2) ∨
        (k = 37 ∧ rest.length = 3) ∨ (k = 38 ∧ rest.length = 2) ∨
        ((k = 39 ∨ k = 41 ∨ k = 42 ∨ k = 43) ∧ rest.length = 0)) →
      RefusedWith (commandOf k dt d) s k tag 1 1 0)

/-- PLAN BEGIN (R2, R97): refused while a unit is open and for plan id 0; otherwise the setups return to
their defaults, every slot but those of RETAINED scenes is emptied, the written-slot count is 0, the plan
is LOADING under the id given, and every condition falls to FALSE. -/
def Obligations.PlanBeginEmptiesTheStore : Prop :=
  ∀ (s : State) (dt : Nat) (d : Delivery) (tag hi lo : Byte), s.ReadyFor dt d → HasJoined s →
    d.payload = [tag, hi, lo] →
    ((∃ r ∈ s.store.records, r.verdict = .unfinished) → RefusedWith (.planBegin dt d) s 32 tag 3 1 0) ∧
    ((∀ r ∈ s.store.records, r.verdict ≠ .unfinished) → twoBytes hi lo = 0 →
      RefusedWith (.planBegin dt d) s 32 tag 2 3 1) ∧
    ((∀ r ∈ s.store.records, r.verdict ≠ .unfinished) → twoBytes hi lo ≠ 0 →
      ∃ t, exec (.planBegin dt d) s = .next t ∧ Answered s t (.accept 32 tag 0) ∧
        t.plan.state = .loading ∧ t.plan.id = some (twoBytes hi lo) ∧ t.plan.written = 0 ∧
        t.plan.channelSetups = [] ∧ t.plan.cellSetups = [] ∧ t.plan.conditions = [] ∧ t.plan.windows = [] ∧
        t.plan.entries = [] ∧ t.plan.bindings = [] ∧ t.plan.captures = [] ∧ t.plan.pairs = [] ∧
        t.plan.steps = [] ∧
        t.plan.heads = s.plan.heads.filter (fun e => e.2.retained) ∧
        (∀ e, e ∈ t.plan.items ↔ e ∈ s.plan.items ∧ s.plan.retained (e.1 / 16) = true) ∧
        (s.Settled → t.sense.conditions.toList = List.replicate 8 ⟨false, none⟩ ∧ t.nest = s.nest ∧
          t.stim = s.stim ∧ t.engine = s.engine ∧ t.store = s.store ∧ t.history = s.history ∧
          t.capture = s.capture))

/-- PLAN RECORD (R3, R4, R195). The first check that fails names the refusal: not LOADING code 1, another plan id
code 2, a kind outside 1..11 code 4, fields not as long as the kind's layout code 8, a slot out of range code 5,
scene 0 code 6, an item of a RETAINED scene code 7 naming its head. Taken, the record stands in its slot in the
layout of its kind, no other slot changes, and the written-slot count rises by 1 for a slot that held none; a SCENE
HEAD written to a RETAINED scene first discards that scene with its items. -/
def Obligations.PlanRecordWritesItsSlot : Prop :=
  ∀ (s : State) (dt : Nat) (d : Delivery) (tag i1 i0 k s1 s0 : Byte) (f : List Byte), s.ReadyFor dt d →
    HasJoined s → d.payload = [tag, i1, i0, k, s1, s0] ++ f →
    let c := Instr.planRecord dt d
    let n := twoBytes s1 s0
    let p := s.plan
    (p.state ≠ .loading → RefusedWith c s 33 tag 2 1 0) ∧
    (p.state = .loading → p.id ≠ some (twoBytes i1 i0) → RefusedWith c s 33 tag 2 2 0) ∧
    (p.state = .loading → p.id = some (twoBytes i1 i0) →
      ((k.toNat = 0 ∨ 11 < k.toNat) → RefusedWith c s 33 tag 2 4 0) ∧
      (1 ≤ k.toNat → k.toNat ≤ 11 → f.length ≠ fieldBytes k.toNat → RefusedWith c s 33 tag 2 8 0) ∧
      (1 ≤ k.toNat → k.toNat ≤ 11 → f.length = fieldBytes k.toNat →
        (¬InSlots k.toNat n → RefusedWith c s 33 tag 2 5 n) ∧
        (InSlots k.toNat n → ((k = 5 ∧ n = 0) ∨ (k = 6 ∧ n < 16)) → RefusedWith c s 33 tag 2 6 0) ∧
        (k = 6 → 16 ≤ n → n ≤ 511 → p.retained (n / 16) = true → RefusedWith c s 33 tag 2 7 (5000 + n / 16)) ∧
        (InSlots k.toNat n →
          (k = 1 → Writes c s tag n p.channelSetups (parseChannelSetup n f)
            (fun l w => { p with channelSetups := l, written := w })) ∧
          (k = 2 → Writes c s tag n p.cellSetups (parseCellSetup n f)
            (fun l w => { p with cellSetups := l, written := w })) ∧
          (k = 3 → Writes c s tag n p.conditions ⟨byteAt f 0, byteAt f 1, byteAt f 2, byteAt f 3, byteAt f 4⟩
            (fun l w => { p with conditions := l, written := w })) ∧
          (k = 4 → Writes c s tag n p.windows ⟨signed32 (word32 f 0), signed32 (word32 f 4), word32 f 8⟩
            (fun l w => { p with windows := l, written := w })) ∧
          (k = 5 → 1 ≤ n → p.retained n = false →
            Writes c s tag n p.heads ⟨word16 f 0, byteAt f 2 % 2 == 1, byteAt f 3, false⟩
              (fun l w => { p with heads := l, written := w })) ∧
          (k = 5 → 1 ≤ n → p.retained n = true →
            Writes c s tag n (p.heads.filter (fun e => e.1 != n)) ⟨word16 f 0, byteAt f 2 % 2 == 1, byteAt f 3, false⟩
              (fun l w => { p with heads := l, items := p.items.filter (fun e => e.1 / 16 != n), written := w })) ∧
          (k = 6 → 16 ≤ n → p.retained (n / 16) = false →
            Writes c s tag n p.items (parseSceneItem f) (fun l w => { p with items := l, written := w })) ∧
          (k = 7 → Writes c s tag n p.entries
            ⟨word16 f 0, byteAt f 2, word16 f 3, (f.drop 5).take 8, optional7 (byteAt f 13), optional7 (byteAt f 14)⟩
            (fun l w => { p with entries := l, written := w })) ∧
          (k = 8 → Writes c s tag n p.bindings
            ⟨byteAt f 0, byteAt f 1, byteAt f 2, byteAt f 3, word16 f 4, word16 f 6, signed16 (word16 f 8)⟩
            (fun l w => { p with bindings := l, written := w })) ∧
          (k = 9 → Writes c s tag n p.captures ⟨word16 f 0, word16 f 2⟩
            (fun l w => { p with captures := l, written := w })) ∧
          (k = 10 → Writes c s tag n p.pairs ⟨byteAt f 0, word32 f 1, byteAt f 5, byteAt f 6⟩
            (fun l w => { p with pairs := l, written := w })) ∧
          (k = 11 → Writes c s tag n p.steps (parseStep f) (fun l w => { p with steps := l, written := w })))))

/-- PLAN SEAL taken in LOADING under its id starts the validation, the handler CARRYING OUT and the plan unchanged
(R5, R139). SEAL_VALIDATION_END: with no failing check the plan is SEALED with the step count given, every
PERMANENT scene is RETAINED, the captures are cleared (R73) and ACCEPT is sent; with a failing check it is
INVALID, nothing becomes RETAINED, and REFUSE carries its code and qualifier (R5, R19). The ticks are those of
assumptions 1 and 2. -/
def Obligations.SealDecidesThePlan : Prop :=
  (∀ (s : State) (dt : Nat) (d : Delivery) (tag i1 i0 n c1 c0 : Byte), s.ReadyFor dt d → HasJoined s →
    d.payload = [tag, i1, i0, n, c1, c0] →
    (s.plan.state ≠ .loading → RefusedWith (.planSeal dt d) s 34 tag 2 1 0) ∧
    (s.plan.state = .loading → s.plan.id ≠ some (twoBytes i1 i0) → RefusedWith (.planSeal dt d) s 34 tag 2 2 0) ∧
    (s.plan.state = .loading → s.plan.id = some (twoBytes i1 i0) →
      ∃ t, exec (.planSeal dt d) s = .next t ∧ t.handler.state = .carryingOut ∧
        (∃ at', t.handler.job = some ⟨tag, n.toNat, twoBytes c1 c0, at'⟩ ∧ at' = t.now) ∧ t.plan = s.plan ∧
        (s.Settled → CoreUnchanged s t))) ∧
  (∀ (s : State) (dt : Nat) (pins : BitVec 6) (j : SealJob), s.handler.job = some j → s.handler.queue = [] →
    txCount s.rbi.queue .handler < 4 →
    (s.plan.validate j.steps j.records = none →
      ∃ t, exec (.sealValidationEnd ⟨dt, pins⟩) s = .next t ∧ t.plan.state = .sealed ∧ t.plan.stepCount = j.steps ∧
        (∀ e, e ∈ t.plan.heads ↔
          ∃ h, (e.1, h) ∈ s.plan.heads ∧ e.2 = { h with retained := h.retained || h.permanent }) ∧
        t.handler.state = .ready ∧ t.handler.job = none ∧ t.Queues (.accept 34 j.tag 0) ∧
        (s.Settled → (∀ e ∈ t.capture.entries.toList, e = ⟨[], none⟩) ∧ t.capture.arm = none)) ∧
    (∀ code q, s.plan.validate j.steps j.records = some (code, q) →
      ∃ t, exec (.sealValidationEnd ⟨dt, pins⟩) s = .next t ∧ t.plan = { s.plan with state := .invalid } ∧
        t.handler.state = .ready ∧ t.handler.job = none ∧ t.Queues (.refuse 34 j.tag 2 code q)))

/-- What passes the validation (R19): the record count given is the written-slot count, the step count is
1..96 with a STEP record in every slot below it and none at or above it, every WINDOW has its low limit at
or below its high limit (R10), every NET ENTRY keeps to its ranges (R16), and every step keeps to its kinds
and names only scenes that have a head (R18). -/
def Obligations.SealedPlansAreWhole : Prop :=
  ∀ (p : Plan) (n r : Nat), p.validate n r = none →
    r = p.written ∧ 1 ≤ n ∧ n ≤ 96 ∧ (∀ k, k < n → slotHas p.steps k = true) ∧
    (∀ e ∈ p.steps, e.1 < n) ∧ (∀ e ∈ p.windows, e.2.low ≤ e.2.high) ∧
    (∀ e ∈ p.entries, e.2.identifier ≤ 2047 ∧ e.2.length ≤ 8 ∧ 5 ≤ e.2.period ∧ e.2.period ≤ 2000) ∧
    (∀ e ∈ p.steps, e.2.kind ≤ 4 ∧ 1 ≤ e.2.count ∧ e.2.count ≤ 15 ∧ e.2.retest ≤ 3 ∧ 1 ≤ e.2.failCode ∧
      e.2.failCode ≤ 899 ∧ ∀ sc rep, e.2.scene = some (sc, rep) → sc = 0 ∨ slotHas p.heads sc = true)

/-- UNIT START (R25, R100, R101, R122) with every check passed and the clamp open: the reply carries the next
sequence number, the record is opened with the serial, the plan id, the fixture read, the wear handed over and
the present millisecond, and the nest enters CLAMPING with the valve ON and the clamp timer started; a changed
fixture resets wear, counter and history, clears SUSPECT and forces a check. The ticks are those of assumptions
1 and 2. -/
def Obligations.UnitStartOpensARecord : Prop :=
  ∀ (s : State) (dt : Nat) (d : Delivery) (pins : BitVec 6) (tag i1 i0 len : Byte) (chars : List Byte)
    (p : RackParams),
    s.ReadyFor dt d → d.payload = [tag, i1, i0, len] ++ chars → chars.length = 16 →
    1 ≤ len.toNat → len.toNat ≤ 16 → (∀ b ∈ chars.take len.toNat, 32 ≤ b.toNat ∧ b.toNat ≤ 126) →
    s.join.state = .joined → s.join.params = some p → twoBytes i1 i0 ≠ 0 → s.view.halted = false →
    s.view.lineStopped = false → (∀ r ∈ s.store.records, r.verdict ≠ .unfinished) → s.store.records.length < 4 →
    s.plan.state = .sealed → s.plan.id = some (twoBytes i1 i0) → s.nest.state = .loaded →
    s.nest.guardClosed.level = true → s.nest.clampClosed.level = false → pins.toNat ≠ 0 → pins.toNat ≠ 63 →
    s.Settled →
    ∃ t, exec (.unitStart dt pins d) s = .next t ∧ t.pins.fixture = pins ∧
      Answered s t (.accept 35 tag s.store.nextSequence.toNat) ∧
      t.store.records = s.store.records ++
        [⟨s.store.nextSequence, chars.take len.toNat, twoBytes i1 i0, pins.toNat, t.nest.wear, t.ms, none,
          .unfinished, none, []⟩] ∧
      t.store.counter = s.store.nextSequence + 1 ∧ (∀ r ∈ s.store.records, r.seq ≠ s.store.nextSequence) ∧
      t.nest.state = .clamping ∧ t.nest.valve = true ∧ t.nest.fixture = some pins.toNat ∧
      t.nest.reseat = false ∧ t.nest.clampTimer = some (t.now + spanMs p.clampTimeout * 16000) ∧
      (s.nest.fixture = some pins.toNat → t.nest.wear = s.nest.wear ∧ t.nest.counter = s.nest.counter ∧
        t.nest.forced = s.nest.forced ∧ t.nest.suspect = s.nest.suspect ∧ t.history = s.history) ∧
      (s.nest.fixture ≠ some pins.toNat → t.nest.wear = 0 ∧ t.nest.counter = 0 ∧ t.nest.forced = true ∧
        t.nest.suspect = false ∧ t.history = List.replicate 8 .empty) ∧
      t.stim = s.stim ∧ t.engine = s.engine ∧ t.plan = s.plan ∧ t.view = s.view

/-- The first check of R100 that fails names the refusal of UNIT START: self-check failed, not joined, plan
id, serial, halted, stopped, unit open, ending, store full, no sealed plan, another plan, nest not loaded,
guard open, no fixture. -/
def Obligations.UnitStartChecksInOrder : Prop :=
  ∀ (s : State) (dt : Nat) (d : Delivery) (pins : BitVec 6) (tag i1 i0 len : Byte) (chars : List Byte),
    s.ReadyFor dt d → d.payload = [tag, i1, i0, len] ++ chars → chars.length = 16 →
    ∀ cls code q, FirstStartRefusal s pins (twoBytes i1 i0) len.toNat chars cls code q →
      ∃ t, exec (.unitStart dt pins d) s = .next t ∧ t.Queues (.refuse 35 tag cls code q) ∧
        t.handler = s.handler ∧ t.plan = s.plan ∧ t.view = s.view ∧ (s.Settled → CoreUnchanged s t)

/-- UNIT ABORT (R121): with no unit open NOT READY code 7, for another sequence ILLEGAL code 9; otherwise the unit
is aborted with 909 and ACCEPT is sent. The ticks are those of assumptions 1 and 2. -/
def Obligations.UnitAbortClosesTheUnit : Prop :=
  ∀ (s : State) (dt : Nat) (d : Delivery) (tag hi lo : Byte), s.ReadyFor dt d → HasJoined s →
    d.payload = [tag, hi, lo] →
    ((∀ r ∈ s.store.records, r.verdict ≠ .unfinished) → RefusedWith (.unitAbort dt d) s 36 tag 1 7 0) ∧
    (∀ r, s.openRecord = some r →
      (r.seq.toNat ≠ twoBytes hi lo → RefusedWith (.unitAbort dt d) s 36 tag 2 9 0) ∧
      (r.seq.toNat = twoBytes hi lo → ∃ t, exec (.unitAbort dt d) s = .next t ∧
        Answered s t (.accept 36 tag 0) ∧
        AbortedWith s t 909 (if s.engine.running then [⟨s.engine.step, max 1 s.engine.attempt, .error, none, {}, some 909⟩] else [])))

/-- VERDICT QUERY (R123, R196): an unknown sequence is refused ILLEGAL code 9; otherwise segment 0 carries
the header and segment k the results 2k − 2 and 2k − 1 with the end flag, and the query changes nothing. -/
def Obligations.VerdictQueryReadsTheRecord : Prop :=
  ∀ (s : State) (dt : Nat) (d : Delivery) (tag hi lo k : Byte), s.ReadyFor dt d → HasJoined s →
    d.payload = [tag, hi, lo, k] →
    ((∀ r ∈ s.store.records, r.seq.toNat ≠ twoBytes hi lo) → RefusedWith (.verdictQuery dt d) s 37 tag 2 9 0) ∧
    (∀ r, s.recordOf (twoBytes hi lo) = some r → ∃ t fs, exec (.verdictQuery dt d) s = .next t ∧
      Answered s t (.verdictSegment tag fs) ∧ (s.Settled → CoreUnchanged s t) ∧ t.plan = s.plan ∧
      (k = 0 → fs = [0, toByte ((if r.results = [] then 1 else 0) + 2 * verdictCode r.verdict)] ++
        bigEndian 2 r.seq.toNat ++ bigEndian 2 r.planId ++ [toByte r.fixture] ++ bigEndian 3 r.wear ++
        bigEndian 4 r.start.toNat ++ bigEndian 4 ((r.finish.map BitVec.toNat).getD 0) ++
        bigEndian 2 (r.firstFail.getD 0) ++ [toByte r.results.length]) ∧
      (k ≠ 0 → ∃ flags body, fs = [k, flags] ++ body ++ [0] ∧ body.length = 18 ∧
        (flags.getLsbD 0 = true ↔ r.results.length ≤ 2 * k.toNat) ∧
        (∀ x, r.results[2 * k.toNat - 2]? = some x → body.take 9 = x.bytes) ∧
        (∀ x, r.results[2 * k.toNat - 1]? = some x → body.drop 9 = x.bytes) ∧
        (r.results.length ≤ 2 * k.toNat - 2 → body = List.replicate 18 0)))

/-- VERDICT RELEASE (R124): an unknown sequence is refused ILLEGAL code 9 and an OPEN record BUSY code 1;
otherwise the record is gone, the others keep their order, and the history and the streak are unchanged. -/
def Obligations.VerdictReleaseRemovesTheRecord : Prop :=
  ∀ (s : State) (dt : Nat) (d : Delivery) (tag hi lo : Byte), s.ReadyFor dt d → HasJoined s →
    d.payload = [tag, hi, lo] →
    ((∀ r ∈ s.store.records, r.seq.toNat ≠ twoBytes hi lo) → RefusedWith (.verdictRelease dt d) s 38 tag 2 9 0) ∧
    (∀ r, s.recordOf (twoBytes hi lo) = some r →
      (r.verdict = .unfinished → RefusedWith (.verdictRelease dt d) s 38 tag 3 1 0) ∧
      (r.verdict ≠ .unfinished → s.Settled → ∃ t, exec (.verdictRelease dt d) s = .next t ∧
        Answered s t (.accept 38 tag 0) ∧
        t.store.records = s.store.records.filter (fun x => x.seq != r.seq) ∧
        t.store.counter = s.store.counter ∧ t.history = s.history ∧ t.view = s.view ∧ t.nest = s.nest ∧
        t.engine = s.engine ∧ t.plan = s.plan))

/-- VOID UNIT (R125) pops the history and CLEAR SUSPECT (R40) resets it and clears SUSPECT; after each change
the FAIL entries are counted against the suspect limit. Neither touches a record or the nest's state. -/
def Obligations.VoidAndClearSuspectChangeTheHistory : Prop :=
  ∀ (s : State) (dt : Nat) (d : Delivery) (tag : Byte), s.ReadyFor dt d → HasJoined s → d.payload = [tag] → s.Settled →
    (∃ t, exec (.voidUnit dt d) s = .next t ∧ Answered s t (.accept 39 tag 0) ∧ t.history = Voided s.history ∧
      t.nest = { s.nest with suspect := SuspectAfter s s.nest.suspect (Voided s.history) } ∧
      t.store = s.store ∧ t.engine = s.engine ∧ t.stim = s.stim ∧ t.view = s.view) ∧
    (∃ t, exec (.clearSuspect dt d) s = .next t ∧ Answered s t (.accept 42 tag 0) ∧
      t.history = List.replicate 8 .empty ∧ t.nest = { s.nest with suspect := false } ∧ t.store = s.store ∧
      t.engine = s.engine ∧ t.stim = s.stim ∧ t.view = s.view)

/-- CLEAR FAULT (R39): outside FAULT it is refused NOT READY code 11; in FAULT the fault code becomes none, the
FAULT prompt is ended, and the nest enters RELEASING with the clamp timer started while the clamp is closed,
LOADED or EMPTY otherwise. The ticks are those of assumptions 1 and 2. -/
def Obligations.ClearFaultLeavesFault : Prop :=
  ∀ (s : State) (dt : Nat) (d : Delivery) (tag : Byte), s.ReadyFor dt d → HasJoined s → d.payload = [tag] →
    (s.nest.state ≠ .fault → RefusedWith (.clearFault dt d) s 41 tag 1 11 0) ∧
    (∀ p, s.nest.state = .fault → s.join.params = some p → s.Settled →
      ∃ t, exec (.clearFault dt d) s = .next t ∧ Answered s t (.accept 41 tag 0) ∧ t.nest.fault = none ∧
        (s.nest.clampClosed.level = true → s.nest.clampOpen.level = false →
          t.nest.state = .releasing ∧ t.nest.valve = false ∧
          t.nest.clampTimer = some (t.now + spanMs p.clampTimeout * 16000)) ∧
        (s.nest.clampClosed.level = false →
          t.nest.state = if s.nest.partPresent.level then .loaded else .empty) ∧
        t.nest.wear = s.nest.wear ∧ t.nest.counter = s.nest.counter ∧ t.nest.forced = s.nest.forced ∧
        (s.nest.clampClosed.level = false → ∀ e ∈ t.prompts.entries, e.source ≠ .nest) ∧
        t.stim = s.stim ∧ t.engine = s.engine ∧ t.store = s.store)

/-- STATUS QUERY (R182, R196): answered whatever the join state; the report changes nothing, at a settled station
neither the prompts nor the Claim Unit's exchanges nor a network unit whose port is not FREE, and shows the
join state, qualifier, nest, fault code, SUSPECT, LINE STOPPED and HALTED, an OPEN window, an open unit and an own
budget entry, the pin wear, the engine and its step, the open sequence, the record count, the plan and its id, the
streak, the own place at the panel and the gantry, and the own budget; an INACTIVE view shows nothing of its own. -/
def Obligations.StatusQueryReportsAndChangesNothing : Prop :=
  ∀ (s : State) (dt : Nat) (d : Delivery) (tag : Byte), s.ReadyFor dt d → d.payload = [tag] →
    ∃ t fs, exec (.statusQuery dt d) s = .next t ∧ Answered s t (.statusReport tag fs) ∧
      t.plan = s.plan ∧ t.view = s.view ∧ t.join.state = s.join.state ∧
      (s.Settled → CoreUnchanged s t ∧ ExchangesKept s t) ∧
      ∃ flags places : Byte,
        fs = [toByte (match s.join.state with
                | .announcing => 1 | .awaitingParameters => 2 | .rebuilding => 3 | .joined => 4 | .failedJoined => 5
                | _ => 0),
              toByte s.join.qualifier, toByte (nestCode s.nest.state)] ++ bigEndian 2 (s.nest.fault.getD 0) ++ [flags] ++
            bigEndian 3 s.nest.wear ++ [toByte (engineCode s.engine.state), toByte s.engine.step] ++
            bigEndian 2 ((s.openRecord.map (fun r => r.seq.toNat)).getD 0) ++
            [toByte s.store.records.length, toByte (planCode s.plan.state)] ++ bigEndian 2 (s.plan.id.getD 0) ++
            [toByte s.view.streak, places] ++
            bigEndian 2 (if s.view.active then s.view.held.getD (s.rbi.address - 1) 0 else 0) ∧
        flags.toNat < 64 ∧ flags.getLsbD 0 = s.nest.suspect ∧ flags.getLsbD 1 = s.view.lineStopped ∧
        flags.getLsbD 2 = s.view.halted ∧
        (flags.getLsbD 3 = true ↔ s.view.active = true ∧ s.view.window ≠ none) ∧
        (flags.getLsbD 4 = true ↔ ∃ r ∈ s.store.records, r.verdict = .unfinished) ∧
        (flags.getLsbD 5 = true ↔ s.view.active = true ∧ ∃ a, (s.rbi.address, a) ∈ s.view.budgetList) ∧
        places.toNat = PlaceAt s s.view.panel + 4 * PlaceAt s s.view.gantry

/-- STATION RESET (R142, R189): accepted by a joined station, the handler RESETTING until the report of the
ACCEPT; at its delivery, and at its rejection, the warm reset comes: REBUILDING, the queues emptied but for the
ATTENTION that the reset queues, the plan EMPTY but for RETAINED scenes (R1), every output at SAFE (R56), the Claim Unit
silent (R153), the engine IDLE, an open unit aborted with 910, and the address, the parameters, the
qualifier, the clock and the view kept; the order of these effects is assumption 32. -/
def Obligations.StationResetResetsAtTheReport : Prop :=
  (∀ (s : State) (dt : Nat) (d : Delivery) (tag : Byte), s.ReadyFor dt d → HasJoined s → d.payload = [tag] →
    ∃ t, exec (.stationReset dt d) s = .next t ∧ t.Queues (.accept 43 tag 0) ∧ t.handler.state = .resetting ∧
      t.plan = s.plan ∧ (s.Settled → CoreUnchanged s t)) ∧
  (∀ (s : State) (dt start res : Nat) (pins : BitVec 6) (f : Frame) (line : List Bool) (tag : Byte) (c : Instr),
    s.ownOnLine = some (start, .accept 43 tag res) → s.handler.state = .resetting →
    (c = .frameRejected ⟨dt, pins⟩ line ∨
      (c = .replyDelivered ⟨dt, pins⟩ f ∧ f = (TxBody.accept 43 tag res).frame s.rbi.address ∧ s.rbi.address ≠ 30)) →
    ∃ t, exec c s = .next t ∧ t.join.state = .rebuilding ∧ t.rbi.queue = [⟨.attention, false⟩] ∧
      t.rbi.address = s.rbi.address ∧
      t.handler = ⟨.ready, [], none, none⟩ ∧ t.plan.state = .empty ∧ t.plan.id = none ∧ t.plan.written = 0 ∧
      t.plan.steps = [] ∧ t.plan.heads = s.plan.heads.filter (fun e => e.2.retained) ∧ t.StimulusAtRest ∧
      t.claims.silent = true ∧ t.engine.state = .idle ∧ (∀ e ∈ t.capture.entries.toList, e = ⟨[], none⟩) ∧
      t.join.params = s.join.params ∧ t.join.qualifier = s.join.qualifier ∧
      t.join.clockStart = s.join.clockStart ∧ t.view = s.view ∧
      ∀ r ∈ s.store.records, r.verdict = .unfinished →
        ∃ r' ∈ t.store.records, r'.seq = r.seq ∧ r'.verdict = .aborted ∧ r'.firstFail = some 910)

/-- REPLY_DELIVERED (R140): the report of one of the handler's frames, of any kind, lets the reply in the slot into the
transmit queue; the handler returns to READY. Another station's reply changes nothing (R136). -/
def Obligations.ReplyReportFreesTheSlot : Prop :=
  ∀ (s : State) (dt : Nat) (pins : BitVec 6) (f : Frame),
    (∀ (start : Nat) (a b : TxBody),
      s.ownOnLine = some (start, a) → a.producer = .handler → f = a.frame s.rbi.address →
      s.handler.state = .replyWaiting → s.handler.slot = some b → b.producer = .handler → s.handler.queue = [] →
      txCount s.rbi.queue .handler ≤ 4 → s.rbi.address ≤ 24 →
      ∃ t, exec (.replyDelivered ⟨dt, pins⟩ f) s = .next t ∧ t.Queues b ∧ t.handler.state = .ready ∧
        t.handler.slot = none ∧ t.plan = s.plan ∧ (s.Settled → CoreUnchanged s t)) ∧
    (s.rbi.bus ≠ .silent → s.rbi.address < 32 → f.src.toNat ≠ s.rbi.address → 48 ≤ f.kind.toNat →
      f.kind.toNat ≤ 51 →
      ∃ t, exec (.replyDelivered ⟨dt, pins⟩ f) s = .next t ∧ t.handler = s.handler ∧ t.view = s.view ∧
        t.plan = s.plan ∧ (s.Settled → CoreUnchanged s t))

/-! ## Inputs, the nest -/

/-- Raw and deglitched levels (R21, R80, R81, R96). A raw level away from the deglitched one starts the
deglitch, one back at it stops it, and the level already held changes nothing; at its end the deglitched level
takes the raw one. Likewise a qualify timer that expires changes the qualified state. Nobody waiting for an
event (R98), nothing else in the station changes. The event of an expiring qualify timer reaches the party that waits
for it: an ELAPSED acquisition completes with the milliseconds since its arming (R88), a WAIT step passes (R110), and
a step prompt that its RISE completes is taken down with PASS (R169). The ticks of these clauses are those of
assumptions 1 and 2; that a command restating the raw level changes nothing is assumption 17, the record of an edge
for R87 is assumption 45. -/
def Obligations.InputsFollowTheirDeglitch : Prop :=
  ∀ (s : State) (dt : Nat), s.Settled →
    (∀ (x : Sensor) (b : Bool), ∃ t, exec (.nestSensorInput dt x b) s = .next t ∧ t.now = s.now + dt ∧
      (b = (s.nest.sensor x).raw → t.nest = s.nest) ∧
      (b ≠ (s.nest.sensor x).raw → (t.nest.sensor x).raw = b ∧ (t.nest.sensor x).level = (s.nest.sensor x).level ∧
        (t.nest.sensor x).endsAt = if b = (s.nest.sensor x).level then none else some (t.now + 20 * 16000)) ∧
      (∀ y, y ≠ x → t.nest.sensor y = s.nest.sensor y) ∧ t.nest.state = s.nest.state ∧ t.sense = s.sense ∧
      t.stim = s.stim ∧ t.engine = s.engine) ∧
    (∀ (i : Fin 4) (b : Bool), b = (vecGet s.sense.timing i.val (.at false)).raw →
      ∃ t, exec (.timingInputChange dt i b) s = .next t ∧ RestUnchanged s t ∧ t.sense = s.sense) ∧
    (∀ (i : Fin 4) (b : Bool), b = (vecGet s.sense.logic i.val (.at false)).raw →
      ∃ t, exec (.logicInputChange dt i b) s = .next t ∧ RestUnchanged s t ∧ t.sense = s.sense) ∧
    (∀ (i : Fin 4) (b : Bool), 0 < (s.plan.cellSetup (i.val + 4)).deglitch →
      ∃ t, exec (.timingInputChange dt i b) s = .next t ∧ RestUnchanged s t ∧
        (let d := vecGet s.sense.timing i.val (.at false)
         vecGet t.sense.timing i.val (.at false) =
          if b = d.raw then d
          else if b = d.level then ⟨b, d.level, none⟩
          else ⟨b, d.level, some (t.now + (s.plan.cellSetup (i.val + 4)).deglitch * 16)⟩)) ∧
    (∀ (i : Fin 4) (b : Bool), 0 < (s.plan.cellSetup (i.val + 8)).deglitch →
      ∃ t, exec (.logicInputChange dt i b) s = .next t ∧ RestUnchanged s t ∧
        (let d := vecGet s.sense.logic i.val (.at false)
         vecGet t.sense.logic i.val (.at false) =
          if b = d.raw then d
          else if b = d.level then ⟨b, d.level, none⟩
          else ⟨b, d.level, some (t.now + (s.plan.cellSetup (i.val + 8)).deglitch * 16000)⟩)) ∧
    (s.Unwatched →
      (∀ (i : Fin 4) (k : Nat), (vecGet s.sense.timing i.val (.at false)).endsAt = some k → s.sense.slot = none →
        ∃ t, exec (.timingEdge dt i) s = .next t ∧ t.now = max (s.now + dt) k ∧ RestUnchanged s t ∧
          t.sense.slot = none ∧
          (let d := vecGet s.sense.timing i.val (.at false)
           let e := vecGet s.sense.edges i.val ⟨0, 0⟩
           let sel := (s.plan.cellSetup (i.val + 4)).edge
           let q := sel ≠ 1 ∧ d.raw = true ∨ sel ≠ 0 ∧ d.raw = false
           vecGet t.sense.timing i.val (.at false) = ⟨d.raw, d.raw, none⟩ ∧
           vecGet t.sense.edges i.val ⟨0, 0⟩ =
             ⟨t.now, (if e.tick = t.now then e.count else 0) + (if q then 1 else 0)⟩)) ∧
      (∀ (i : Fin 4) (k : Nat), (vecGet s.sense.logic i.val (.at false)).endsAt = some k →
        ∃ t, exec (.logicLevelTaken dt i) s = .next t ∧ t.now = max (s.now + dt) k ∧ RestUnchanged s t ∧
          (let d := vecGet s.sense.logic i.val (.at false)
           vecGet t.sense.logic i.val (.at false) = ⟨d.raw, d.raw, none⟩)) ∧
      (∀ (i : Fin 8) (k : Nat), (vecGet s.sense.conditions i.val ⟨false, none⟩).timer = some k →
        ∃ t, exec (.qualifyTimerExpiry dt i) s = .next t ∧ t.now = max (s.now + dt) k ∧ RestUnchanged s t ∧
          vecGet t.sense.conditions i.val ⟨false, none⟩ =
            ⟨!(vecGet s.sense.conditions i.val ⟨false, none⟩).qualified, none⟩ ∧
          (∀ j, j ≠ i.val → vecGet t.sense.conditions j ⟨false, none⟩ = vecGet s.sense.conditions j ⟨false, none⟩))) ∧
    (∀ (i : Fin 8) (k : Nat), (vecGet s.sense.conditions i.val ⟨false, none⟩).timer = some k →
      let rise := !(vecGet s.sense.conditions i.val ⟨false, none⟩).qualified
      (∀ a e, s.sense.slot = some a → a.forNest = false → a.source = .elapsed i.val rise → s.engine.state = .acquiring →
        s.stepNow.kind = 1 → s.stepNow.source = .elapsed i.val e →
        ∃ t, exec (.qualifyTimerExpiry dt i) s = .next t ∧ t.now = max (s.now + dt) k ∧
          (let rd := Reading.value ((t.ms - a.armMs).toNat : Nat) false false false
           GoesOn s rd → Counted s t rd ∧ ArmedAnew t (.elapsed i.val (decide (e = 0))) 0 0)) ∧
      (∀ u code, s.sense.slot = none → s.engine.state = .acquiring → s.stepNow.kind = 2 →
        s.stepNow.source = .event i.val code →
        ((rise = true ∧ (code = 0 ∨ code = 2)) ∨ (rise = false ∧ (code = 1 ∨ code = 3))) → s.net.anyLate = false →
        s.plan.stepCount ≤ s.engine.step + 1 → s.openRecord = some u →
        ∃ t, exec (.qualifyTimerExpiry dt i) s = .next t ∧ t.now = max (s.now + dt) k ∧
          UnitEnded s t ⟨s.engine.step, s.engine.attempt, .pass, none, marksOf s, none⟩) ∧
      (∀ u p tag, s.sense.slot = none → s.entryFrom .step = some p → p.auto = .condition i.val → rise = true →
        p.state = .posted tag → s.engine.state = .awaitAnswer → s.stepNow.kind = 4 → s.net.anyLate = false →
        s.plan.stepCount ≤ s.engine.step + 1 → s.openRecord = some u →
        ∃ t, exec (.qualifyTimerExpiry dt i) s = .next t ∧ t.now = max (s.now + dt) k ∧ t.prompts.timer = none ∧
          t.prompts.withdrawal = some tag ∧ (∀ x ∈ t.prompts.entries, x.source ≠ .step) ∧
          UnitEnded s t ⟨s.engine.step, s.engine.attempt, .pass, none, marksOf s, none⟩))

/-- PART_PRESENT_CHANGE (R24, R33, R35) and GUARD_CHANGE (R34, R37), with no party waiting for their conditions:
EMPTY and LOADED follow the part, UNLOAD ends with its REMOVE prompt, and a clamped nest that loses its part is
released and its unit aborted with 908. An opening guard holds a clamped nest with its valve as it was and
aborts the unit with 901; in HELD the guard adds and removes its reason, and a nest with no reason left is
released. The ticks are those of assumptions 1 and 2. -/
def Obligations.PartAndGuardMoveTheNest : Prop :=
  ∀ (s : State) (dt k : Nat), s.nest.derived = true → s.Settled → s.Unwatched →
    (s.nest.partPresent.endsAt = some k →
      ∃ t, exec (.partPresentChange dt) s = .next t ∧ t.now = max (s.now + dt) k ∧
        t.nest.partPresent = ⟨s.nest.partPresent.raw, s.nest.partPresent.raw, none⟩ ∧
        (s.nest.partPresent.raw = true →
          t.nest.state = (if s.nest.state = .empty then .loaded else s.nest.state) ∧ t.stim = s.stim ∧
          t.engine = s.engine ∧ t.store = s.store) ∧
        (s.nest.partPresent.raw = false → (s.nest.state = .loaded ∨ s.nest.state = .unload) →
          t.nest.state = .empty ∧ t.stim = s.stim ∧ t.engine = s.engine ∧ t.store = s.store) ∧
        (s.nest.partPresent.raw = false → s.nest.state = .unload → ∀ e ∈ t.prompts.entries, e.source ≠ .nest) ∧
        (s.nest.partPresent.raw = false → nestClamped s.nest.state = true → s.openRecord.isSome = true →
          AbortedWith s t 908 (cutShort s 908) ∧ t.nest.valve = false ∧
          t.nest.state = if s.nest.clampOpen.level then .empty else .releasing)) ∧
    (s.nest.guardClosed.endsAt = some k →
      ∃ t, exec (.guardChange dt) s = .next t ∧ t.now = max (s.now + dt) k ∧
        t.nest.guardClosed = ⟨s.nest.guardClosed.raw, s.nest.guardClosed.raw, none⟩ ∧
        (s.nest.guardClosed.raw = false → nestClamped s.nest.state = true →
          t.nest.state = .held ∧ t.nest.valve = s.nest.valve ∧ t.nest.holdGuard = true ∧ t.nest.holdHalt = false ∧
          t.nest.clampTimer = none ∧
          (s.openRecord.isSome = true → AbortedWith s t 901 (cutShort s 901))) ∧
        (s.nest.guardClosed.raw = false → s.nest.state = .held →
          t.nest.state = .held ∧ t.nest.valve = s.nest.valve ∧ t.nest.holdGuard = true ∧
          t.nest.holdHalt = s.nest.holdHalt) ∧
        (s.nest.guardClosed.raw = true → s.nest.state = .held → s.nest.holdHalt = true →
          t.nest.state = .held ∧ t.nest.valve = s.nest.valve ∧ t.nest.holdGuard = false ∧ t.nest.holdHalt = true) ∧
        (∀ p, s.nest.guardClosed.raw = true → s.nest.state = .held → s.nest.holdHalt = false →
          s.nest.clampOpen.level = false → s.join.params = some p →
          t.nest.state = .releasing ∧ t.nest.valve = false ∧ t.nest.holdGuard = false ∧
          t.nest.clampTimer = some (t.now + spanMs p.clampTimeout * 16000)) ∧
        (s.nest.state ≠ .held → (nestClamped s.nest.state = true → s.nest.guardClosed.raw = true) →
          t.nest.state = s.nest.state ∧ t.nest.valve = s.nest.valve ∧ t.store = s.store))

/-- CLAMP_CLOSED_CHANGE (R26, R28, R29, R102): the clamp closing in CLAMPING counts pin wear and the clamp, and
leads to the contact check at the lowest pair where one is owed, or through READY to step 0 of an open unit; a
check over no pair has passed. CLAMP_OPEN_CHANGE (R30, R33): a RELEASING nest goes to UNLOAD with the REMOVE
prompt or to EMPTY, the opening half of a reseat back to CLAMPING. A conflict of the two sensors enters FAULT
907 (R27). The ticks are those of assumptions 1 and 2. -/
def Obligations.ClampSensorsMoveTheNest : Prop :=
  ∀ (s : State) (dt k : Nat), s.nest.derived = true → s.Settled → s.Unwatched →
    (s.nest.clampClosed.endsAt = some k → s.nest.clampClosed.raw = true →
      ∃ t, exec (.clampClosedChange dt) s = .next t ∧ t.now = max (s.now + dt) k ∧
        t.nest.clampClosed = ⟨true, true, none⟩ ∧
        (s.nest.clampOpen.level = true → s.nest.state ≠ .held → s.nest.state ≠ .fault → Faulted s t 907) ∧
        (∀ p, s.nest.state = .clamping → s.nest.clampOpen.level = false → s.join.params = some p →
          let w := min 16777215 (s.nest.wear + 1)
          let n := min 255 (s.nest.counter + 1)
          (∀ i r, CheckOwed s p w n → s.plan.pairFrom 0 = some (i, r) →
            t.nest.state = .contacting ∧ t.nest.valve = true ∧ t.nest.clampTimer = none ∧ t.nest.wear = w ∧
            t.nest.counter = n ∧ t.nest.position = i ∧ t.nest.contact = .waiting (t.now + 10 * 16000) ∧
            t.stim.test = some r.channel) ∧
          (∀ dw, CheckOwed s p w n → s.plan.pairFrom 0 = none → s.openRecord.isSome = true →
            s.engine.state = .idle → StartsWithDwell s dw →
            Begun t dw ∧ t.nest.wear = w ∧ t.nest.counter = 0 ∧ t.nest.forced = false) ∧
          (∀ dw, ¬CheckOwed s p w n → s.openRecord.isSome = true → s.engine.state = .idle → StartsWithDwell s dw →
            Begun t dw ∧ t.nest.wear = w ∧ t.nest.counter = n ∧ t.nest.forced = s.nest.forced))) ∧
    (s.nest.clampOpen.endsAt = some k → s.nest.clampOpen.raw = true →
      ∃ t, exec (.clampOpenChange dt) s = .next t ∧ t.now = max (s.now + dt) k ∧
        t.nest.clampOpen = ⟨true, true, none⟩ ∧
        (s.nest.clampClosed.level = true → s.nest.state ≠ .held → s.nest.state ≠ .fault → Faulted s t 907) ∧
        (s.nest.clampClosed.level = false → s.nest.state = .releasing →
          t.nest.clampTimer = none ∧ t.nest.wear = s.nest.wear ∧
          (s.nest.partPresent.level = true → t.nest.state = .unload ∧ NestPrompt t 900 .partRemoved) ∧
          (s.nest.partPresent.level = false → t.nest.state = .empty)) ∧
        (∀ p, s.nest.clampClosed.level = false → s.nest.state = .contacting → s.nest.contact = .opening →
          s.join.params = some p →
          t.nest.state = .clamping ∧ t.nest.valve = true ∧ t.nest.wear = s.nest.wear ∧
          t.nest.clampTimer = some (t.now + spanMs p.clampTimeout * 16000)))

/-- CLAMP_TIMEOUT (R26, R30, R33): FAULT 906. CONTACT_WAIT_EXPIRY (R29): a pair on cell 0 or 1 awaits the next
monitor reading, one on another cell arms an acquisition of 16 samples. The reading that READING_INSTANT (R78) or
LEVEL_SAMPLES_COMPLETE (R83) then brings (R29 to R31): a PASS leads to the next pair or, with none left, through READY
to step 0; the first failure reseats, the clamp opening; a failure with the reseat taken enters FAULT 902. Check forced
at the reseat rests on assumption 44, the ticks on assumptions 1 and 2. -/
def Obligations.ClampAndContactTimersExpire : Prop :=
  ∀ (s : State) (dt k : Nat), s.Settled →
    (s.nest.clampTimer = some k →
      ∃ t, exec (.clampTimeout dt) s = .next t ∧ t.now = max (s.now + dt) k ∧ Faulted s t 906 ∧
        t.nest.wear = s.nest.wear ∧ t.nest.counter = s.nest.counter ∧ t.nest.forced = s.nest.forced) ∧
    (∀ r, s.nest.contact = .waiting k → slotGet s.plan.pairs s.nest.position = some r →
      ∃ t, exec (.contactWaitExpiry dt) s = .next t ∧ t.now = max (s.now + dt) k ∧ t.stim = s.stim ∧
        t.engine = s.engine ∧ t.store = s.store ∧
        (r.cell ≤ 1 → t.nest = { s.nest with contact := .monitor t.now } ∧ t.sense = s.sense) ∧
        (2 ≤ r.cell → t.nest = { s.nest with contact := .acquiring } ∧
          ∃ a, t.sense.slot = some a ∧ a.forNest = true ∧ a.source = .level r.cell ∧ a.samples = 16 ∧
            a.phase = .sampling ∧ a.taken = 0 ∧ a.sum = 0 ∧ a.armTick = t.now)) ∧
    (∀ since r w, s.nest.state = .contacting → s.nest.contact = .monitor since →
      since < max (s.now + dt) s.sense.nextReading → s.Unwatched → s.sense.slot = none → s.stim.overdraw < 2 →
      slotGet s.plan.pairs s.nest.position = some r → r.cell ≤ 1 → slotGet s.plan.windows r.window = some w →
      ∃ t, exec (.readingInstant dt) s = .next t ∧ ContactTaken s t r w (BackgroundOf s r.cell)) ∧
    (∀ a r w, s.nest.state = .contacting → s.sense.slot = some a → a.forNest = true → a.source = .level r.cell →
      a.phase = .sampling → a.samples ≤ a.taken → slotGet s.plan.pairs s.nest.position = some r →
      slotGet s.plan.windows r.window = some w →
      let x := a.sum * cellFullScale r.cell (s.plan.cellSetup r.cell)
      ∃ t, exec (.levelSamplesComplete dt) s = .next t ∧
        ContactTaken s t r w (.value (roundHalfUp x (4095 * a.samples)) (decide (x % (4095 * a.samples) ≠ 0))
          a.saturated false))

/-! ## Readings -/

/-- READING_INSTANT (R78, R79): on the 10 ms rhythm every analogue cell forms its background reading from its 16
most recent samples, and its flag is set above the threshold and cleared at or below threshold − hysteresis. In
CONTACTING and TESTING the monitor reading of cell 0 is held against H × 50 + margin, H the budget held, or in an
OPEN window that recorded at the opening ATTENTION (assumption 42): at or below it the
overdraw count is 0, above it the count rises, and the third in a row applies SAFE and aborts the unit with 903
(R59). A LEVEL acquisition on cell 0 or 1 armed before the instant completes with the monitor reading (R84).
ANALOGUE_SAMPLE (R78, R83): on the 0.1 ms rhythm each cell takes its sample, and a sampling acquisition its own
(the operand of assumption 46). The order within an instant is assumption 16.
The ticks are those of assumptions 1 and 2. -/
def Obligations.AnalogueCellsSampleAndRead : Prop :=
  (∀ (s : State) (dt : Nat), ∃ t, exec (.readingInstant dt) s = .next t ∧
    t.now % 160000 = 0 ∧ max (s.now + dt) s.sense.nextReading ≤ t.now ∧
    t.now < max (s.now + dt) s.sense.nextReading + 160000 ∧ t.sense.nextReading = t.now + 160000 ∧
    ∀ c, c < 4 →
      let u := s.plan.cellSetup c
      let l := vecGet s.sense.samples c []
      let v := roundHalfUp (l.sum * cellFullScale c u) 65520
      vecGet t.sense.background c .noSignal =
        .value v (decide (l.sum * cellFullScale c u % 65520 ≠ 0)) (decide (4095 ∈ l)) false ∧
      (vecGet s.sense.flags c false = false → (vecGet t.sense.flags c false = true ↔ u.threshold < v)) ∧
      (vecGet s.sense.flags c false = true → (vecGet t.sense.flags c false = false ↔ v + u.hysteresis ≤ u.threshold))) ∧
  (∀ (s : State) (dt : Nat) (p : RackParams), s.Settled → s.Unwatched → s.sense.slot = none →
    (∀ k, s.nest.contact ≠ .monitor k) → s.join.params = some p →
    let x := roundHalfUp ((vecGet s.sense.samples 0 []).sum * cellFullScale 0 (s.plan.cellSetup 0)) 65520
    let h := if s.view.window = none then s.view.held.getD (s.rbi.address - 1) 0 else s.claims.budget.opened
    let limit := h * 50 + p.margin
    ∃ t, exec (.readingInstant dt) s = .next t ∧
      ((s.nest.state ≠ .contacting ∧ s.nest.state ≠ .testing) → t.stim = s.stim ∧ t.nest = s.nest ∧ t.store = s.store) ∧
      ((s.nest.state = .contacting ∨ s.nest.state = .testing) →
        (x ≤ limit → t.stim = { s.stim with overdraw := 0 } ∧ t.nest = s.nest ∧ t.engine = s.engine ∧ t.store = s.store) ∧
        (limit < x → s.stim.overdraw < 2 →
          t.stim = { s.stim with overdraw := s.stim.overdraw + 1 } ∧ t.nest = s.nest ∧ t.engine = s.engine ∧
          t.store = s.store) ∧
        (limit < x → 2 ≤ s.stim.overdraw → t.StimulusAtRest ∧ t.stim.overdraw = 0 ∧
          (s.openRecord.isSome = true → AbortedWith s t 903 (cutShort s 903))))) ∧
  (∀ (s : State) (dt : Nat) (a : Acquisition) (x c m g n : Nat), s.Settled → s.sense.slot = some a → a.forNest = false →
    a.source = .level x → x ≤ 1 → a.phase = .awaitingReading → a.armTick < max (s.now + dt) s.sense.nextReading →
    s.engine.state = .acquiring → s.stepNow.kind = 1 → s.stepNow.source = .cell c m g n →
    (∀ e ∈ s.prompts.entries, e.source ≠ .step) → (∀ k, s.nest.contact ≠ .monitor k) → s.stim.overdraw < 2 →
    GoesOn s (BackgroundOf s x) →
    ∃ t, exec (.readingInstant dt) s = .next t ∧ t.nest = s.nest ∧ t.store = s.store ∧
      t.engine = { s.engine with
        last := some (BackgroundOf s x, classNow s (BackgroundOf s x)),
        count := if classNow s (BackgroundOf s x) = .pass then s.engine.count + 1 else 0 } ∧
      ArmedAnew t (cellSource c m) g n) ∧
  (∀ (s : State) (dt : Nat) (x0 x1 : BitVec 12) (x2 x3 : CellSample), s.Settled →
    ∃ t, exec (.analogueSample dt x0 x1 x2 x3) s = .next t ∧
      t.now % 1600 = 0 ∧ max (s.now + dt) s.sense.nextSample ≤ t.now ∧
      t.now < max (s.now + dt) s.sense.nextSample + 1600 ∧ t.sense.nextSample = t.now + 1600 ∧
      (∀ c x, (c, x) ∈ [(0, x0), (1, x1), (2, x2.background), (3, x3.background)] →
        let l := vecGet s.sense.samples c [] ++ [x.toNat]
        vecGet t.sense.samples c [] = l.drop (l.length - 16)) ∧
      RestUnchanged s t ∧ t.sense.background = s.sense.background ∧ t.sense.flags = s.sense.flags ∧
      (s.sense.slot = none → t.sense.slot = none) ∧
      (∀ a c x, s.sense.slot = some a → (c, x) ∈ [(2, x2.acquisition), (3, x3.acquisition)] → a.source = .level c →
        a.phase = .sampling → a.taken < a.samples →
        t.sense.slot = some { a with sum := a.sum + x.toNat, taken := a.taken + 1,
                                     saturated := a.saturated || x.toNat == 4095 }))

/-- LEVEL_SAMPLES_COMPLETE (R83, R91), GATE_TIMEOUT (R86) and COUNT_INTERVAL_END (R87): the acquisition completes
with its reading, the engine counts it, and the step's next acquisition is armed at the same event (R82, R107,
R108). TIMING_EDGE of a cell with RISING edges (R80, R85, R87, R90): a rising edge counts, opens the gate, adds
a period, or closes the gate of a FREQ acquisition at its gate time or later, with the reading of its periods
and ticks. The ticks are those of assumptions 1 and 2; the edges of the arming tick, which a COUNT's reading takes in
and a new COUNT starts with, are assumption 45. -/
def Obligations.CompletedAcquisitionsReachTheEngine : Prop :=
  ∀ (s : State) (dt : Nat) (a : Acquisition) (c m g n : Nat), s.Settled → s.sense.slot = some a →
    a.forNest = false → s.engine.state = .acquiring → s.stepNow.kind = 1 → s.stepNow.source = .cell c m g n →
    (∀ x, a.source = .level x → a.phase = .sampling → a.samples ≤ a.taken →
      let d := 4095 * a.samples
      let q := a.sum * cellFullScale x (s.plan.cellSetup x)
      let rd := Reading.value (roundHalfUp q d) (decide (q % d ≠ 0)) a.saturated false
      GoesOn s rd → ∃ t, exec (.levelSamplesComplete dt) s = .next t ∧ t.now = s.now + dt ∧ Counted s t rd ∧
        ArmedAnew t (cellSource c m) g n) ∧
    (∀ x, (a.source = .freq x ∨ a.source = .duty x) → a.phase = .gateOpen →
      ∃ t, exec (.gateTimeout dt) s = .next t ∧ t.now = max (s.now + dt) (a.openTick + (a.gate + 250) * 16000) ∧
        Counted s t .noSignal ∧ ArmedAnew t (cellSource c m) g n) ∧
    (∀ x, (a.source = .freq x ∨ (a.source = .duty x ∧ a.moved = true)) → a.phase = .awaitingOpen →
      ∃ t, exec (.gateTimeout dt) s = .next t ∧ t.now = max (s.now + dt) (a.armTick + (a.gate + 250) * 16000) ∧
        Counted s t .noSignal ∧ ArmedAnew t (cellSource c m) g n) ∧
    (∀ x, a.source = .duty x → a.moved = false → a.phase = .awaitingOpen →
      let rd := Reading.value (if (vecGet s.sense.timing (x - 4) (.at false)).level then 10000 else 0) false false true
      GoesOn s rd →
      ∃ t, exec (.gateTimeout dt) s = .next t ∧ t.now = max (s.now + dt) (a.armTick + (a.gate + 250) * 16000) ∧
        Counted s t rd ∧ ArmedAnew t (cellSource c m) g n) ∧
    (a.phase = .counting → GoesOn s (.value ((a.before + a.edges : Nat) : Int) false false false) →
      ∃ t, exec (.countIntervalEnd dt) s = .next t ∧ t.now = max (s.now + dt) (a.armTick + a.gate * 16000) ∧
        Counted s t (.value ((a.before + a.edges : Nat) : Int) false false false) ∧ ArmedAnew t (cellSource c m) g n) ∧
    (∀ (i : Fin 4) (k : Nat), (vecGet s.sense.timing i.val (.at false)).endsAt = some k →
      (vecGet s.sense.timing i.val (.at false)).raw = true → (s.plan.cellSetup (i.val + 4)).edge = 0 →
      (∀ e ∈ s.prompts.entries, e.source ≠ .step) →
      let now := max (s.now + dt) k
      (a.source = .count (i.val + 4) → a.phase = .counting → now < a.armTick + a.gate * 16000 →
        ∃ t, exec (.timingEdge dt i) s = .next t ∧ t.now = now ∧ RestUnchanged s t ∧
          t.sense.slot = some { a with moved := true, edges := a.edges + 1 }) ∧
      (a.source = .freq (i.val + 4) → a.phase = .awaitingOpen →
        ∃ t, exec (.timingEdge dt i) s = .next t ∧ t.now = now ∧ RestUnchanged s t ∧
          t.sense.slot = some { a with moved := true, phase := .gateOpen, openTick := now, openRise := true,
                                       lastEdge := now }) ∧
      (a.source = .freq (i.val + 4) → a.phase = .gateOpen → now < a.openTick + a.gate * 16000 →
        ∃ t, exec (.timingEdge dt i) s = .next t ∧ t.now = now ∧ RestUnchanged s t ∧
          t.sense.slot = some { a with moved := true, periods := a.periods + 1, lastEdge := now }) ∧
      (a.source = .freq (i.val + 4) → a.phase = .gateOpen → a.openTick + a.gate * 16000 ≤ now →
        GoesOn s (freqReading (a.periods + 1) (now - a.openTick)) →
        ∃ t, exec (.timingEdge dt i) s = .next t ∧ t.now = now ∧
          Counted s t (freqReading (a.periods + 1) (now - a.openTick)) ∧ ArmedAnew t (cellSource c m) g n))

/-- A FREQ reading is P × 16,000,000,000 / C and a LEVEL reading S × FS / (4,095 × N), each rounded half up and
INEXACT when the division leaves a remainder, the FREQ reading lowered to 250,000,000 with SATURATED (R90, R91);
and the class of a reading against a window whose limits are not reversed (R106). -/
def Obligations.ReadingsAreScaledAndClassified : Prop :=
  (∀ p c : Nat, 0 < c → ∃ f : Nat, 2 * c * f ≤ 2 * (p * 16000000000) + c ∧ 2 * (p * 16000000000) + c < 2 * c * (f + 1) ∧
    freqReading p c =
      .value (if 250000000 < f then 250000000 else f) (decide (p * 16000000000 % c ≠ 0)) (decide (250000000 < f)) false) ∧
  (∀ fs sum n : Nat, ∀ sat, 0 < n → ∃ v : Nat, 2 * (4095 * n) * v ≤ 2 * (sum * fs) + 4095 * n ∧
    2 * (sum * fs) + 4095 * n < 2 * (4095 * n) * (v + 1) ∧
    levelReading fs sum n sat = .value v (decide (sum * fs % (4095 * n) ≠ 0)) sat false) ∧
  (∀ w : Window, classify w .noSignal = .noSignal) ∧
  (∀ (w : Window) (r : Int) (inexact saturated still : Bool), w.low ≤ w.high →
    let c := classify w (.value r inexact saturated still)
    (w.low < r → r < w.high → saturated = false → c = .pass) ∧
    ((r = w.low ∨ r = w.high) → inexact = false → saturated = false → c = .pass) ∧
    (w.low ≤ r → r ≤ w.high → saturated = true → c = .marginal) ∧
    ((r = w.low ∨ r = w.high) → inexact = true → c = .marginal) ∧
    (w.low - w.guardBand ≤ r → r < w.low → c = .marginal) ∧
    (w.high < r → r ≤ w.high + w.guardBand → c = .marginal) ∧
    ((r < w.low - w.guardBand ∨ w.high + w.guardBand < r) → c = .fail))

/-- R92: a DUTY reading of a gate with H high ticks of C is H × 10,000 / C rounded half up, in 0..10,000, INEXACT
when the division leaves a remainder, and neither STATIC nor SATURATED; STATIC belongs to a DUTY timeout alone,
whose reading is then an exact 0 or 10,000. -/
def Obligations.DutyReadingsAreShares : Prop :=
  (∀ (a : Acquisition) (x now : Nat), a.source = .duty x → a.openTick < now → a.high ≤ now - a.openTick →
    ∃ v : Nat, v ≤ 10000 ∧
      2 * (now - a.openTick) * v ≤ 2 * (a.high * 10000) + (now - a.openTick) ∧
      2 * (a.high * 10000) + (now - a.openTick) < 2 * (now - a.openTick) * (v + 1) ∧
      a.gateReading now = .value v (decide (a.high * 10000 % (now - a.openTick) ≠ 0)) false false) ∧
  (∀ (a : Acquisition) (level : Bool) (v : Int) (i sa : Bool), a.timeoutReading level = .value v i sa true →
    (∃ x, a.source = .duty x) ∧ (v = 0 ∨ v = 10000) ∧ i = false ∧ sa = false) ∧
  (∀ (a : Acquisition) (now : Nat) (v : Int) (i sa : Bool), a.gateReading now ≠ .value v i sa true) ∧
  (∀ (fs sum n : Nat) (sat : Bool) (v : Int) (i sa : Bool), levelReading fs sum n sat ≠ .value v i sa true) ∧
  (∀ x v : Int, ∀ i sa, exactReading x ≠ .value v i sa true)

/-! ## The vehicle network -/

/-- NET_SCHEDULE_EXAMINATION with a BUSY port (R63 to R65): at a whole millisecond of the clock every enabled entry
that is due advances its due time by its period and is PENDING with the due time reached, or, PENDING already,
keeps its pending due and is LATE; no other entry changes. SENT_COMPLETION (R66, R67): the port is FREE when no
enabled entry is PENDING; otherwise the PENDING entry of the greatest age, and of the lowest index among equals,
is handed off. The ticks are those of assumptions 1 and 2. -/
def Obligations.ScheduleAndPortServeTheEntries : Prop :=
  (∀ (s : State) (dt c : Nat), s.join.clockStart = some c → s.net.port ≠ .free → s.Settled → s.Unwatched →
    ∃ t, exec (.netScheduleExamination dt) s = .next t ∧ s.now + dt ≤ t.now ∧ (t.now - c) % 16000 = 0 ∧
      RestUnchanged s t ∧ t.net.port = s.net.port ∧ t.net.request = s.net.request ∧
      ∀ k, k < 24 →
        let e := vecGet s.net.entries k NetRun.reset
        vecGet t.net.entries k NetRun.reset =
          if e.enabled = true ∧ e.due = some t.ms then
            match e.pend with
            | none => { e with due := some (t.ms + BitVec.ofNat 32 (s.plan.entryPeriod k)), pend := some t.ms }
            | some _ => { e with due := some (t.ms + BitVec.ofNat 32 (s.plan.entryPeriod k)), late := true }
          else e) ∧
  (∀ (s : State) (dt : Nat), s.Settled →
    ∃ t, exec (.sentCompletion dt) s = .next t ∧ t.now = s.now + dt ∧ RestUnchanged s t ∧ t.sense = s.sense ∧
      ((∀ k, k < 24 → ∀ p, (vecGet s.net.entries k NetRun.reset).enabled = true →
          (vecGet s.net.entries k NetRun.reset).pend ≠ some p) →
        t.net = { s.net with port := .free }) ∧
      (∀ k p, k < 24 → (vecGet s.net.entries k NetRun.reset).enabled = true →
        (vecGet s.net.entries k NetRun.reset).pend = some p →
        (∀ j q, j < 24 → j ≠ k → (vecGet s.net.entries j NetRun.reset).enabled = true →
          (vecGet s.net.entries j NetRun.reset).pend = some q →
          (t.ms - q).toNat < (t.ms - p).toNat ∨ ((t.ms - q).toNat = (t.ms - p).toNat ∧ k < j)) →
        let r := s.plan.netEntry k
        let e := vecGet s.net.entries k NetRun.reset
        t.net.port = .busy k ∧
        t.net.request = some (.frame r.identifier (buildPayload s.plan s.setpoint k r e).1) ∧
        vecGet t.net.entries k NetRun.reset =
          { e with pend := none, alive := if r.alive.isSome ∧ e.freeze = false then (e.alive + 1) % 16 else e.alive } ∧
        (∀ j, j ≠ k → vecGet t.net.entries j NetRun.reset = vecGet s.net.entries j NetRun.reset)))

/-- RECEIVE_HANDOFF (R74, R76): while the plan is SEALED a frame whose identifier a CAPTURE names becomes that
capture's latest, and ends the acquisition that waits for it with the reading of its field; every other frame is
discarded. NETFIELD_WAIT_EXPIRY (R75): after 3 × the expected period the acquisition ends with NO SIGNAL. The
engine counts the reading and arms anew (R107, R108). The ticks are those of assumptions 1 and 2. -/
def Obligations.CapturesTakeTheirFrames : Prop :=
  ∀ (s : State) (dt : Nat), s.Settled →
    (∀ (ident : BitVec 11) (payload : List Byte),
      ((s.plan.state ≠ .sealed ∨ s.plan.captureOf ident.toNat = none) →
        ∃ t, exec (.receiveHandoff dt ident payload) s = .next t ∧ t.now = s.now + dt ∧ RestUnchanged s t ∧
          t.sense = s.sense) ∧
      (∀ k, s.plan.state = .sealed → s.plan.captureOf ident.toNat = some k → k < 16 →
        (∀ a, s.capture.arm = some a → a.capture ≠ k) →
        ∃ t, exec (.receiveHandoff dt ident payload) s = .next t ∧ t.now = s.now + dt ∧
          vecGet t.capture.entries k ⟨[], none⟩ = ⟨payload, some t.ms⟩ ∧
          (∀ j, j ≠ k → vecGet t.capture.entries j ⟨[], none⟩ = vecGet s.capture.entries j ⟨[], none⟩) ∧
          t.capture.arm = s.capture.arm ∧ t.nest = s.nest ∧ t.engine = s.engine ∧ t.store = s.store ∧
          t.sense = s.sense) ∧
      (∀ k a start n sign, s.plan.state = .sealed → s.plan.captureOf ident.toNat = some k → k < 16 →
        s.capture.arm = some a → a.capture = k → s.engine.state = .acquiring → s.stepNow.kind = 1 →
        s.stepNow.source = .netfield k start n sign → GoesOn s (a.read payload) →
        ∃ t, exec (.receiveHandoff dt ident payload) s = .next t ∧ t.now = s.now + dt ∧
          vecGet t.capture.entries k ⟨[], none⟩ = ⟨payload, some t.ms⟩ ∧ Counted s t (a.read payload) ∧
          t.capture.arm = some ⟨k, t.now, start, n, sign == 1⟩)) ∧
    (∀ k a r start n sign, s.capture.arm = some a → a.capture = k → slotGet s.plan.captures k = some r →
      s.engine.state = .acquiring → s.stepNow.kind = 1 → s.stepNow.source = .netfield k start n sign →
      ∃ t, exec (.netfieldWaitExpiry dt) s = .next t ∧ t.now = max (s.now + dt) (a.armedAt + 3 * r.period * 16000) ∧
        Counted s t .noSignal ∧ t.capture.entries = s.capture.entries ∧
        t.capture.arm = some ⟨k, t.now, start, n, sign == 1⟩)

/-- A field that a binding writes (R70) is the field that a capture reads (R76): in a payload of 8 bytes a value
of n nibbles written from nibble s reads back as itself, and no other nibble changes. With its checksum byte in
place a payload and its identifier sum to 255 modulo 256 (R72), and to 0 with BAD-CHECKSUM. A binding's field value
is floor(setpoint × multiplier / divisor) + offset, brought into 0..16^n − 1 with OVERRANGE (R69); the payload starts
as the fixed one with the override's byte in place (R68); the alive counter stands in the alive nibble and in no other
(R71); and a waiting acquisition reads the field of an arrived frame where it lies within it, SIGNED in two's
complement, and NO SIGNAL otherwise (R76). -/
def Obligations.FieldsReadBackAndChecksumsClose : Prop :=
  (∀ (p : List Byte) (start n v : Nat), p.length = 8 → start ≤ 15 → n ≤ 8 → v < 16 ^ n →
    fieldValue (putField p start 0 n v) start n = v ∧ (putField p start 0 n v).length = 8 ∧
    ∀ i, i < 16 → (∀ j, j < n → (start + j) % 16 ≠ i) → nibbleAt (putField p start 0 n v) i = nibbleAt p i) ∧
  (∀ (r : NetEntry) (e : NetRun) (p : List Byte) (c : Nat), r.checksum = some (2 * c) → r.alive = none →
    c < p.length →
    ((((r.seal e p).map BitVec.toNat).sum + r.identifier % 256 + r.identifier / 256) % 256 =
      if e.badChecksum then 0 else 255)) ∧
  (∀ (b : NetBinding) (setpoint : Nat),
    let x : Int := ((setpoint * b.multiplier / b.divisor : Nat) : Int) + b.offset
    (x < 0 → b.field setpoint = (0, true)) ∧
    (0 ≤ x → x < (16 : Int) ^ b.length → b.field setpoint = (x.toNat, false)) ∧
    ((16 : Int) ^ b.length ≤ x → b.field setpoint = (16 ^ b.length - 1, true))) ∧
  (∀ (r : NetEntry) (e : NetRun),
    (e.override = none → r.base e = r.payload.take r.length) ∧
    (∀ pos v, e.override = some (pos, v) → v < 256 → pos < r.length → r.length ≤ r.payload.length →
      (r.base e).length = r.length ∧ byteAt (r.base e) pos = v ∧
      ∀ i, i < r.length → i ≠ pos → byteAt (r.base e) i = byteAt r.payload i)) ∧
  (∀ (r : NetEntry) (e : NetRun) (p : List Byte) (n : Nat), r.alive = some n → n / 2 < p.length → e.alive < 16 →
    (∀ c, r.checksum = some c → n / 2 ≠ c / 2) →
    nibbleAt (r.seal e p) n = e.alive ∧
    ∀ i, i ≠ n → (∀ c, r.checksum = some c → i / 2 ≠ c / 2) → nibbleAt (r.seal e p) i = nibbleAt p i) ∧
  (∀ (a : CaptureArm) (p : List Byte),
    let u := ((List.range a.length).map (fun i => nibbleAt p ((a.start + i) % 16) * 16 ^ i)).sum
    (p.length ≠ 8 → 2 * p.length < a.start + a.length → a.read p = .noSignal) ∧
    (p.length = 8 ∨ a.start + a.length ≤ 2 * p.length →
      (a.signed = false → a.read p = .value u false false false) ∧
      (a.signed = true → 2 * u < 16 ^ a.length → a.read p = .value u false false false) ∧
      (a.signed = true → 16 ^ a.length ≤ 2 * u →
        a.read p = .value ((u : Int) - (16 ^ a.length : Nat)) false false false)))

/-! ## Stimulus channels -/

/-- RAMP_UPDATE (R49, R44), while the ramps of the scene have not all ended: the setpoint moves to
v0 + trunc((v1 − v0) × k / K), a level channel's code or a pulse channel's frequency follows, and at k = K the
ramp is none. ONE_SHOT_EXPIRY (R45): the switch is OFF and its one-shot none. PERIOD_START on a running pulse
channel of source OWN (R47, R48): the next period starts at the end of the one in progress, with the pending pair
if there is one, or the channel stops; a DERIVED channel in RUN that follows it advances its group position.
HIGH_TIME_END (R46): the low time begins. The last ramp of a scene ends its application (R52). The output of a PULSE
or SWITCH channel stands at its high level while the channel is active under polarity NORMAL, or inactive under
INVERTED (R7, R45, R48; which level of a switch is the active one, assumption 41), that of any other channel is its
code. The ticks are those of assumptions 1 and 2. -/
def Obligations.ChannelTimersAct : Prop :=
  (∀ (s : State) (dt : Nat) (ch : Fin 16), s.Settled →
    (∀ r, (s.channel ch.val).ramp = some r →
      (r.made + 1 < r.total ∨ ∃ o, o < 16 ∧ o ≠ ch.val ∧ (s.channel o).ramp.isSome = true) →
      ∃ t, exec (.rampUpdate dt ch) s = .next t ∧ t.now = max (s.now + dt) (r.start + (r.made + 1) * 160000) ∧
        (t.channel ch.val).setpoint =
          ((r.v0 : Int) + Int.tdiv (((r.v1 : Int) - r.v0) * (r.made + 1 : Nat)) r.total).toNat ∧
        (t.channel ch.val).ramp = (if r.total ≤ r.made + 1 then none else some { r with made := r.made + 1 }) ∧
        ((t.channel ch.val).setpoint = r.v1 ∨ r.made + 1 ≠ r.total) ∧
        ((ch.val = 0 ∨ (5 ≤ ch.val ∧ ch.val ≤ 8)) →
          (t.channel ch.val).code =
            roundHalfUp ((t.channel ch.val).setpoint * 4095)
              (if ch.val = 0 ∨ (s.plan.channelSetup ch.val).levelKind = 0 then 16000 else 1000)) ∧
        (1 ≤ ch.val → ch.val ≤ 4 →
          (t.channel ch.val).freq =
            if (t.channel ch.val).setpoint = 0 then 0 else max 10 (t.channel ch.val).setpoint) ∧
        (∀ o, o < 16 → o ≠ ch.val → (o = 0 ∨ 5 ≤ o) → t.channel o = s.channel o) ∧
        t.stim.app = s.stim.app ∧ t.nest = s.nest ∧ t.engine = s.engine ∧ t.store = s.store ∧ t.sense = s.sense) ∧
    (∀ r dw, (s.channel ch.val).ramp = some r → r.total ≤ r.made + 1 →
      (∀ o, o < 16 → o ≠ ch.val → (s.channel o).ramp = none) → s.stim.app = .ramping → s.stim.request = none →
      s.engine.state = .applying → s.stepNow.dwell = some dw → s.view.window = none →
      ∃ t, exec (.rampUpdate dt ch) s = .next t ∧ t.now = max (s.now + dt) (r.start + (r.made + 1) * 160000) ∧
        (t.channel ch.val).ramp = none ∧ t.stim.applied = s.stim.applied ∧ t.nest = s.nest ∧ t.store = s.store ∧
        SceneEnds s t s.engine (s.view.held.getD (s.rbi.address - 1) 0) s.stim.applied dw) ∧
    (∀ k, (s.channel ch.val).oneShot = some k → 9 ≤ ch.val →
      ∃ t, exec (.oneShotExpiry dt ch) s = .next t ∧ t.now = max (s.now + dt) k ∧
        t.channel ch.val = { s.channel ch.val with setpoint := 0, oneShot := none } ∧
        t.output ch.val = (if (s.plan.channelSetup ch.val).polarity = 1 then 1 else 0) ∧
        (∀ o, o < 16 → o ≠ ch.val → (o = 0 ∨ 5 ≤ o) → t.channel o = s.channel o) ∧
        t.nest = s.nest ∧ t.engine = s.engine ∧ t.store = s.store ∧ t.sense = s.sense)) ∧
  (∀ (s : State) (dt : Nat) (ch : Fin 16) (r : PulseRun), s.Settled → 1 ≤ ch.val → ch.val ≤ 4 →
    (s.plan.channelSetup ch.val).source ≠ 1 → (s.channel ch.val).run = some r →
    (∃ t, exec (.periodStart dt ch) s = .next t ∧ t.now = max (s.now + dt) (r.start + r.period) ∧
      ((s.channel ch.val).pend = .none →
        t.channel ch.val = { s.channel ch.val with
          run := some ⟨r.period, r.high, r.start + r.period, true⟩, active := true }) ∧
      (∀ p h, (s.channel ch.val).pend = .pair p h →
        t.channel ch.val = { s.channel ch.val with
          run := some ⟨p, h, r.start + r.period, true⟩, pend := .none, active := true }) ∧
      ((s.channel ch.val).pend = .stop →
        t.channel ch.val = { s.channel ch.val with run := none, pend := .none, active := false }) ∧
      (∀ c, ch.val < c → c ≤ 4 → (s.plan.channelSetup c).source = 1 → (s.plan.channelSetup c).derivedFrom = ch.val →
        (s.channel c).derRun = true → (s.channel ch.val).pend ≠ .stop →
        (t.channel c).counted = true ∧
        (t.channel c).position =
          (if (s.channel c).counted then ((s.channel c).position + 1) % (s.plan.channelSetup c).divisor
           else (s.channel c).position) ∧
        ((t.channel c).active = true ↔ ((s.plan.channelSetup c).divisor = 1 ∨
          (t.channel c).position < (s.plan.channelSetup c).divisor / 2))) ∧
      (∀ c, ch.val < c → c ≤ 4 → (s.plan.channelSetup c).source = 1 → (s.plan.channelSetup c).derivedFrom = ch.val →
        (s.channel ch.val).pend = .stop →
        (t.channel c).counted = false ∧ (t.channel c).position = 0 ∧ (t.channel c).active = false) ∧
      t.nest = s.nest ∧ t.engine = s.engine ∧ t.store = s.store ∧ t.sense = s.sense) ∧
    (r.inHigh = true →
      ∃ t, exec (.highTimeEnd dt ch) s = .next t ∧ t.now = max (s.now + dt) (r.start + r.high) ∧
        t.channel ch.val = { s.channel ch.val with run := some { r with inHigh := false }, active := false } ∧
        t.output ch.val = (if (s.plan.channelSetup ch.val).polarity = 1 then 1 else 0) ∧
        t.nest = s.nest ∧ t.engine = s.engine ∧ t.store = s.store ∧ t.sense = s.sense)) ∧
  (∀ (s : State) (c : Nat), c < 16 →
    (c = 0 ∨ (5 ≤ c ∧ c ≤ 8) → s.output c = (s.channel c).code) ∧
    (1 ≤ c → c ≤ 4 →
      s.output c = if ((s.channel c).active = true ↔ (s.plan.channelSetup c).polarity ≠ 1) then 1 else 0) ∧
    (9 ≤ c →
      s.output c = if ((s.channel c).setpoint ≠ 0 ↔ (s.plan.channelSetup c).polarity ≠ 1) then 1 else 0))

/-! ## The engine, the prompts and the claims -/

/-- DWELL_EXPIRY (R104, R105, R108): a MEASURE step of a cell source arms its first acquisition and starts the
settle timer; an APPLY step that is the last ends its unit. SETTLE_TIMEOUT of a MEASURE step (R109, R115): a
MARGINAL attempt below the retest limit is followed by another, in its dwell at once where the step names no
scene; an attempt without a reading is NO SIGNAL (with the LATE mark of its attempt, assumption 35), and the last step
ends the unit. An APPLY step followed by a step that names a scene (R50 to R55, R103): a draw above the total aborts
with 911; one within the holding is applied at once; one above it waits for its CLAIM; an OPEN window defers it. The
ticks are those of assumptions 1 and 2. -/
def Obligations.DwellAndSettleTimersExpire : Prop :=
  ∀ (s : State) (dt k : Nat), s.Settled →
    (s.engine.dwell = some k →
      (∀ c m g n, s.stepNow.kind = 1 → s.stepNow.source = .cell c m g n →
        ∃ t, exec (.dwellExpiry dt) s = .next t ∧ t.now = max (s.now + dt) k ∧
          t.engine = { s.engine with
            state := .acquiring, dwell := none, settle := s.stepNow.settle.map (fun x => t.now + spanMs x * 16000) } ∧
          ArmedAnew t (cellSource c m) g n ∧ t.nest = s.nest ∧ t.stim = s.stim ∧ t.store = s.store) ∧
      (∀ u, s.stepNow.kind = 0 → s.net.anyLate = false → s.plan.stepCount ≤ s.engine.step + 1 →
        s.openRecord = some u →
        ∃ t, exec (.dwellExpiry dt) s = .next t ∧ t.now = max (s.now + dt) k ∧
          UnitEnded s t ⟨s.engine.step, s.engine.attempt, .pass, none, marksOf s, none⟩) ∧
      (∀ u sc rep dw, s.stepNow.kind = 0 → s.net.anyLate = false → s.engine.step + 1 < s.plan.stepCount →
        s.openRecord = some u → s.nest.state = .testing → (s.plan.step (s.engine.step + 1)).scene = some (sc, rep) →
        (s.plan.step (s.engine.step + 1)).dwell = some dw →
        let d := s.plan.draw sc
        let h := s.view.held.getD (s.rbi.address - 1) 0
        let e : Engine := ⟨.applying, s.engine.step + 1, 1, 0, none, none, none⟩
        ∃ t, exec (.dwellExpiry dt) s = .next t ∧ t.now = max (s.now + dt) k ∧
          (s.view.window = none → s.view.total < d →
            AbortedWith s t 911 [⟨s.engine.step, s.engine.attempt, .pass, none, marksOf s, none⟩,
                                 ⟨s.engine.step + 1, 1, .error, none, {}, some 911⟩]) ∧
          (s.view.window = none → d ≤ s.view.total → d ≤ h →
            PassRecorded s t ∧ t.nest = s.nest ∧ SceneApplied s t e h sc rep dw) ∧
          (s.view.window = none → d ≤ s.view.total → h < d →
            PassRecorded s t ∧ t.nest = s.nest ∧ t.engine = e ∧ t.stim.app = .awaitingBudget ∧
            t.stim.request = some (sc, rep) ∧ t.stim.applied = s.stim.applied ∧ t.claims.budget.want = d ∧
            (∀ c, c < 16 → t.channel c = { s.channel c with clamped := false }) ∧
            (∀ p, s.claims.silent = false → claimEntry s.rbi.queue .budget = none → s.claims.budget.retry = none →
              s.entryNow = none → s.join.params = some p →
              t.Queues (.claim .budget (d - h)) ∧
              t.claims.budget.wait = some (t.now + spanMs p.resourceWait * 16000))) ∧
          (s.view.window ≠ none →
            PassRecorded s t ∧ t.nest = s.nest ∧ t.engine = e ∧ t.stim.app = .deferred ∧
            t.stim.request = some (sc, rep) ∧ t.stim.applied = s.stim.applied ∧
            t.claims.budget.want = s.claims.budget.want ∧
            (∀ c, c < 16 → t.channel c = { s.channel c with clamped := false })))) ∧
    (s.engine.settle = some k → s.stepNow.kind = 1 →
      (∀ rd cl dw, s.engine.last = some (rd, cl) → (cl = .pass ∨ cl = .marginal) →
        s.engine.attempt < 1 + s.stepNow.retest → s.stepNow.scene = none → s.stepNow.dwell = some dw →
        ∃ t, exec (.settleTimeout dt) s = .next t ∧ t.now = max (s.now + dt) k ∧
          t.engine = ⟨.dwell, s.engine.step, s.engine.attempt + 1, 0, none, some (t.now + spanMs dw * 16000), none⟩ ∧
          t.sense.slot = none ∧ t.capture.arm = none ∧ t.store = s.store ∧ t.nest = s.nest) ∧
      (∀ u, s.engine.last = none → s.plan.stepCount ≤ s.engine.step + 1 → s.openRecord = some u →
        ∃ t, exec (.settleTimeout dt) s = .next t ∧ t.now = max (s.now + dt) k ∧ t.sense.slot = none ∧
          UnitEnded s t ⟨s.engine.step, s.engine.attempt, .noSignal, none, marksOf s, none⟩))

/-- PROMPT_TIMEOUT (R169): the POSTED prompt is taken down, its timer stopped, with a WITHDRAW pending; a step
prompt leaves its attempt NO SIGNAL (with the LATE mark of its attempt, assumption 35). PROMPT_ANSWER (R168, R113,
R39): an answer that fits the POSTED prompt removes it with no WITHDRAW; CONFIRM ends the attempt PASS or FAIL, DONE of
a step prompt PASS, a VALUE as its class says; DONE clears the fault of a FAULT prompt and leaves the nest of
a REMOVE prompt in UNLOAD. Any other answer (another tag or kind, a CONFIRM above 1, a DONE other than 1) changes no
block and leaves the POSTED prompt, its timer and the withdrawal as they are. The ticks are those of assumptions 1 and
2. -/
def Obligations.PromptsTimeOutAndAreAnswered : Prop :=
  (∀ (s : State) (dt k : Nat) (e : PromptEntry) (tag : Tag), s.Settled → s.prompts.timer = some k →
    s.postedEntry = some (e, tag) →
    (e.source = .nest → ∃ t, exec (.promptTimeout dt) s = .next t ∧ t.now = max (s.now + dt) k ∧
      t.prompts.timer = none ∧ t.prompts.withdrawal = some tag ∧ (∀ x ∈ t.prompts.entries, x.source ≠ .nest) ∧
      (txCount s.rbi.queue .promptQueue < 2 → t.Queues (.promptWithdraw tag)) ∧ CoreUnchanged s t) ∧
    (∀ u, e.source = .step → s.engine.state = .awaitAnswer → s.stepNow.kind = 4 →
      s.plan.stepCount ≤ s.engine.step + 1 → s.openRecord = some u →
      ∃ t, exec (.promptTimeout dt) s = .next t ∧ t.now = max (s.now + dt) k ∧ t.prompts.timer = none ∧
        t.prompts.withdrawal = some tag ∧
        UnitEnded s t ⟨s.engine.step, s.engine.attempt, .noSignal, none, marksOf s, none⟩)) ∧
  (∀ (s : State) (dt : Nat) (d : Delivery) (tag kind v3 v2 v1 v0 : Byte), s.Settled →
    Takes s dt (deliveryFrame 14 d) → d.src.toNat = 29 → d.dst.toNat = s.rbi.address → s.rbi.address ≤ 24 →
    d.payload = [tag, kind, v3, v2, v1, v0] →
    ((∀ e, s.postedEntry = some (e, tag) → ¬Fits e kind v3 v2 v1 v0) →
      ∃ t, exec (.promptAnswer dt d) s = .next t ∧ CoreUnchanged s t ∧ PromptsKept s t) ∧
    (∀ e u, s.postedEntry = some (e, tag) → Fits e kind v3 v2 v1 v0 → e.source = .step →
      s.engine.state = .awaitAnswer → s.stepNow.kind = 4 → s.net.anyLate = false →
      s.plan.stepCount ≤ s.engine.step + 1 → s.openRecord = some u →
      ∃ t, exec (.promptAnswer dt d) s = .next t ∧ t.prompts.timer = none ∧
        t.prompts.withdrawal = s.prompts.withdrawal ∧ (∀ x ∈ t.prompts.entries, x.source ≠ .step) ∧
        (kind ≠ 1 → UnitEnded s t
          ⟨s.engine.step, s.engine.attempt, if v0 = 1 then .pass else .fail, none, marksOf s, none⟩) ∧
        (kind = 1 →
          let rd := Reading.value (signedBytes v3 v2 v1 v0) false false false
          (classNow s rd = .pass ∨ classNow s rd = .fail) →
          UnitEnded s t ⟨s.engine.step, s.engine.attempt, if classNow s rd = .pass then .pass else .fail,
            some (signedBytes v3 v2 v1 v0), marksOf s, none⟩)) ∧
    (∀ e, s.postedEntry = some (e, tag) → e.source = .nest → e.kind = 2 → kind = 2 → v3 = 0 → v2 = 0 → v1 = 0 →
      v0 = 1 →
      ∃ t, exec (.promptAnswer dt d) s = .next t ∧ t.prompts.timer = none ∧
        t.prompts.withdrawal = s.prompts.withdrawal ∧ t.engine = s.engine ∧ t.store = s.store ∧
        (e.auto = .partRemoved → t.nest = s.nest ∧ ∀ x ∈ t.prompts.entries, x.source ≠ .nest) ∧
        (e.auto = .none → s.nest.state = .fault → s.nest.clampClosed.level = false →
          t.nest.fault = none ∧ (t.nest.state = if s.nest.partPresent.level then .loaded else .empty) ∧
          ∀ x ∈ t.prompts.entries, x.source ≠ .nest)))

/-- RESOURCE_WAIT_EXPIRY (R53, R112, R113, R157): an open unit whose engine waits for the panel, the gantry or
budget is aborted with 914. RETRY_TIMER_EXPIRY (R155, R156, R159): the timer stops and the CLAIM or RELEASE that
is due is queued, while the window is CLOSED by what the view shows and while it is OPEN by the records too (that of
BUDGET there by assumption 20). In an OPEN window a RELEASE does not wait for that timer: a wait for budget that
expires meanwhile queues it at once (R159). A RELEASE of another station that lets the station's own budget entry be served brings the grant: the waiting
scene is applied at that delivery and the wait timer stops (R53, R157). GANTRY_RESULT_TIMEOUT (R163, R112): the
request ends and a waiting unit is aborted with 913. MEASURE_RESULT (R163, R111, R112): an OK result is counted
and the next measurement asked for, a FAIL aborts with 912. The ticks are those of assumptions 1 and 2. -/
def Obligations.WaitsRetriesAndMeasurementsEnd : Prop :=
  (∀ (s : State) (dt k : Nat), s.openRecord.isSome = true →
    (∀ e, s.claims.panel.wait = some k → s.prompts.entries.find? (fun x => x.state == .claiming none) = some e →
      e.source = .step → s.engine.state = .awaitAnswer →
      ∃ t, exec (.resourceWaitExpiry dt .panel) s = .next t ∧ t.now = max (s.now + dt) k ∧
        AbortedWith s t 914 [errorResult s 914]) ∧
    (s.claims.gantry.wait = some k → s.engine.state = .awaitResource →
      ∃ t, exec (.resourceWaitExpiry dt .gantry) s = .next t ∧ t.now = max (s.now + dt) k ∧
        AbortedWith s t 914 [errorResult s 914]) ∧
    (s.claims.budget.wait = some k → s.stim.app = .awaitingBudget → s.engine.state = .applying →
      ∃ t, exec (.resourceWaitExpiry dt .budget) s = .next t ∧ t.now = max (s.now + dt) k ∧
        AbortedWith s t 914 [errorResult s 914] ∧
        (∀ o, s.view.window = some o → s.claims.silent = false → claimEntry s.rbi.queue .budget = none →
          0 < s.heldNow → t.Queues (.release .budget s.heldNow))) ∧
    (∀ tag, s.claims.request = .outstanding tag k → s.engine.state = .awaitResult →
      ∃ t, exec (.gantryResultTimeout dt) s = .next t ∧ t.now = max (s.now + dt) k ∧ t.claims.request = .none ∧
        AbortedWith s t 913 [errorResult s 913])) ∧
  (∀ (s : State) (dt k : Nat), s.Settled → s.claims.silent = false → s.view.window = none →
    (s.claims.panel.retry = some k → s.claims.panel.want = true → s.shows .panel = false →
      claimEntry s.rbi.queue .panel = none →
      ∃ t, exec (.retryTimerExpiry dt .panel) s = .next t ∧ t.now = max (s.now + dt) k ∧
        t.claims.panel.retry = none ∧ t.Queues (.claim .panel 0) ∧ CoreUnchanged s t) ∧
    (s.claims.gantry.retry = some k → s.claims.gantry.want = true → s.shows .gantry = false →
      claimEntry s.rbi.queue .gantry = none →
      ∃ t, exec (.retryTimerExpiry dt .gantry) s = .next t ∧ t.now = max (s.now + dt) k ∧
        t.claims.gantry.retry = none ∧ t.Queues (.claim .gantry 0) ∧ CoreUnchanged s t) ∧
    (s.claims.budget.retry = some k → s.heldNow < s.claims.budget.want → s.entryNow = none →
      claimEntry s.rbi.queue .budget = none →
      ∃ t, exec (.retryTimerExpiry dt .budget) s = .next t ∧ t.now = max (s.now + dt) k ∧
        t.claims.budget.retry = none ∧ t.Queues (.claim .budget (s.claims.budget.want - s.heldNow)) ∧
        CoreUnchanged s t) ∧
    (s.claims.panel.retry = some k → s.claims.panel.want = false → s.shows .panel = true →
      claimEntry s.rbi.queue .panel = none →
      ∃ t, exec (.retryTimerExpiry dt .panel) s = .next t ∧ t.Queues (.release .panel 0) ∧ CoreUnchanged s t) ∧
    (s.claims.gantry.retry = some k → s.claims.gantry.want = false → s.shows .gantry = true →
      claimEntry s.rbi.queue .gantry = none →
      ∃ t, exec (.retryTimerExpiry dt .gantry) s = .next t ∧ t.Queues (.release .gantry 0) ∧ CoreUnchanged s t) ∧
    (s.claims.budget.retry = some k → claimEntry s.rbi.queue .budget = none →
      (s.claims.budget.want < s.heldNow ∨
        ∃ a, s.entryNow = some a ∧ (s.claims.budget.want ≤ s.heldNow ∨ s.heldNow + a < s.claims.budget.want)) →
      ∃ t, exec (.retryTimerExpiry dt .budget) s = .next t ∧
        t.Queues (.release .budget (s.heldNow - s.claims.budget.want)) ∧ CoreUnchanged s t)) ∧
  (∀ (s : State) (dt k : Nat), s.Settled → s.claims.silent = false → s.view.window ≠ none →
    (s.claims.panel.retry = some k → claimEntry s.rbi.queue .panel = none →
      ∃ t, exec (.retryTimerExpiry dt .panel) s = .next t ∧ t.claims.panel.retry = none ∧ CoreUnchanged s t ∧
        (s.claims.panel.want = true → s.claims.panel.record = false → s.shows .panel = false →
          t.Queues (.claim .panel 0)) ∧
        (s.claims.panel.want = false → s.shows .panel = true →
          t.Queues (.release .panel 0) ∧ t.claims.panel.record = false)) ∧
    (s.claims.gantry.retry = some k → claimEntry s.rbi.queue .gantry = none →
      ∃ t, exec (.retryTimerExpiry dt .gantry) s = .next t ∧ t.claims.gantry.retry = none ∧ CoreUnchanged s t ∧
        (s.claims.gantry.want = true → s.claims.gantry.record = false → s.shows .gantry = false →
          t.Queues (.claim .gantry 0)) ∧
        (s.claims.gantry.want = false → s.shows .gantry = true →
          t.Queues (.release .gantry 0) ∧ t.claims.gantry.record = false)) ∧
    (s.claims.budget.retry = some k → claimEntry s.rbi.queue .budget = none →
      ∃ t, exec (.retryTimerExpiry dt .budget) s = .next t ∧ t.claims.budget.retry = none ∧ CoreUnchanged s t ∧
        t.claims.budget.record = min s.claims.budget.record s.claims.budget.want ∧
        (s.claims.budget.record < s.claims.budget.want → s.heldNow ≤ s.claims.budget.want → s.entryNow = none →
          t.Queues (.claim .budget (s.claims.budget.want - s.claims.budget.record))) ∧
        (s.claims.budget.want < s.heldNow ∨
            (s.entryNow.isSome = true ∧ s.claims.budget.want ≤ s.claims.budget.record) →
          t.Queues (.release .budget (s.heldNow - s.claims.budget.want))))) ∧
  (∀ (s : State) (dt a sc dw : Nat) (rep : Bool) (d : Delivery) (hi lo : Byte) (rest : List (Nat × Nat)),
    Takes s dt (deliveryFrame 9 d) → FromStation d → d.payload = [2, hi, lo] → twoBytes hi lo ≤ 4000 →
    d.src.toNat ≠ s.rbi.address → 1 ≤ s.rbi.address → s.rbi.address ≤ 24 → s.view.held.length = 24 →
    s.view.active = true → s.view.window = none → s.view.budgetList = (s.rbi.address, a) :: rest →
    (∀ x ∈ rest, x.1 ≠ s.rbi.address ∧ 1 ≤ x.1 ∧ x.1 ≤ 24) → 0 < a → s.claims.silent = false →
    s.claims.budget.reported = false →
    s.stim.app = .awaitingBudget → s.stim.request = some (sc, rep) → s.engine.state = .applying →
    s.stepNow.dwell = some dw →
    let h := s.view.held.getD (s.rbi.address - 1) 0
    let st := d.src.toNat - 1
    s.claims.budget.want = h + a → s.plan.draw sc = h + a →
    a ≤ s.view.total - (s.view.held.set st (s.view.held.getD st 0 - twoBytes hi lo)).sum →
    ∃ t, exec (.release dt d) s = .next t ∧ SceneApplied s t s.engine (h + a) sc rep dw ∧
      t.claims.budget.wait = none ∧ t.claims.budget.reported = true ∧ t.nest = s.nest ∧ t.store = s.store) ∧
  (∀ (s : State) (dt k : Nat) (d : Delivery) (tag status v2 v1 v0 : Byte), s.Settled →
    Takes s dt (deliveryFrame 17 d) → d.src.toNat = 28 → d.dst.toNat = s.rbi.address → s.rbi.address ≤ 24 →
    d.payload = [tag, status, v2, v1, v0] → s.claims.request = .outstanding tag k → s.engine.state = .awaitResult →
    (∀ sp ex, status = 0 → s.stepNow.kind = 3 → s.stepNow.source = .spot sp ex → s.view.window = none →
      s.holds .gantry = true →
      let rd := Reading.value ((v2.toNat * 65536 + twoBytes v1 v0 : Nat) : Int) false false false
      GoesOn s rd →
      ∃ t, exec (.measureResult dt d) s = .next t ∧ Counted s t rd ∧
        t.claims.request = .queued s.claims.tag sp ex ∧
        (txCount s.rbi.queue .gantry = 0 → t.Queues (.measureRequest s.claims.tag sp ex))) ∧
    (status = 1 → s.openRecord.isSome = true →
      ∃ t, exec (.measureResult dt d) s = .next t ∧ AbortedWith s t 912 [errorResult s 912]))

/-- The delivery of the station's own frame to a node is its report (R132): a PROMPT POST makes its entry POSTED
and starts the prompt timer, or begins the withdrawal of an entry that is gone (R167, R171); a PROMPT WITHDRAW ends
the pending withdrawal (R170); a MEASURE REQUEST makes the request OUTSTANDING and starts the result timer (R162).
Another station's changes no block, the POSTED prompt, its timer and a withdrawal among them (R136). The ticks are
those of assumptions 1 and 2. -/
def Obligations.OwnRequestsAreReportedDelivered : Prop :=
  ∀ (s : State) (dt : Nat) (d : Delivery), s.Settled →
    (∀ tag kind msg par e, OwnDelivery s (.promptPost tag kind msg par) 12 d →
      s.prompts.entries.find? (fun x => x.state == .claiming (some tag)) = some e →
      ∃ t, exec (.promptPost dt d) s = .next t ∧
        t.prompts.timer = e.timeout.map (fun n => t.now + n * 16000) ∧
        ({ e with state := .posted tag } : PromptEntry) ∈ t.prompts.entries ∧ CoreUnchanged s t) ∧
    (∀ tag kind msg par, OwnDelivery s (.promptPost tag kind msg par) 12 d →
      s.prompts.entries.find? (fun x => x.state == .claiming (some tag)) = none →
      ∃ t, exec (.promptPost dt d) s = .next t ∧ t.prompts.withdrawal = some tag ∧ CoreUnchanged s t) ∧
    (∀ tag, OwnDelivery s (.promptWithdraw tag) 13 d → s.prompts.withdrawal = some tag →
      ∃ t, exec (.promptWithdraw dt d) s = .next t ∧ t.prompts.withdrawal = none ∧ CoreUnchanged s t) ∧
    (∀ tag sp ex p, OwnDelivery s (.measureRequest tag sp ex) 16 d → s.claims.request = .queued tag sp ex →
      s.join.params = some p →
      ∃ t, exec (.measureRequest dt d) s = .next t ∧
        t.claims.request = .outstanding tag (t.now + spanMs p.gantryTimeout * 16000) ∧ CoreUnchanged s t) ∧
    (∀ c k, (c = .promptPost dt d ∧ k = 12) ∨ (c = .promptWithdraw dt d ∧ k = 13) ∨ (c = .measureRequest dt d ∧ k = 16) →
      s.rbi.bus ≠ .silent → s.rbi.address < 32 → d.src.toNat ≠ s.rbi.address →
      ∃ t, exec c s = .next t ∧ CoreUnchanged s t ∧ t.view = s.view ∧ t.handler = s.handler ∧
        t.claims.request = s.claims.request ∧ PromptsKept s t)
end

