-- ==== Sys2Proof/Laws/State.lean ====
section
/-! SUPPORT. One lemma per field per update of a block of the state, true by unfolding the update:
no later proof unfolds a record update. -/

namespace Sys2Proof.Machine

@[simp] theorem State.modPins_now (s : State) (f : Pins → Pins) : (s.modPins f).now = s.now := rfl
@[simp] theorem State.modPins_pins (s : State) (f : Pins → Pins) : (s.modPins f).pins = f s.pins := rfl
@[simp] theorem State.modPins_rbi (s : State) (f : Pins → Pins) : (s.modPins f).rbi = s.rbi := rfl
@[simp] theorem State.modPins_handler (s : State) (f : Pins → Pins) : (s.modPins f).handler = s.handler := rfl
@[simp] theorem State.modPins_view (s : State) (f : Pins → Pins) : (s.modPins f).view = s.view := rfl
@[simp] theorem State.modPins_claims (s : State) (f : Pins → Pins) : (s.modPins f).claims = s.claims := rfl
@[simp] theorem State.modPins_plan (s : State) (f : Pins → Pins) : (s.modPins f).plan = s.plan := rfl
@[simp] theorem State.modPins_nest (s : State) (f : Pins → Pins) : (s.modPins f).nest = s.nest := rfl
@[simp] theorem State.modPins_stim (s : State) (f : Pins → Pins) : (s.modPins f).stim = s.stim := rfl
@[simp] theorem State.modPins_net (s : State) (f : Pins → Pins) : (s.modPins f).net = s.net := rfl
@[simp] theorem State.modPins_capture (s : State) (f : Pins → Pins) : (s.modPins f).capture = s.capture := rfl
@[simp] theorem State.modPins_sense (s : State) (f : Pins → Pins) : (s.modPins f).sense = s.sense := rfl
@[simp] theorem State.modPins_engine (s : State) (f : Pins → Pins) : (s.modPins f).engine = s.engine := rfl
@[simp] theorem State.modPins_store (s : State) (f : Pins → Pins) : (s.modPins f).store = s.store := rfl
@[simp] theorem State.modPins_history (s : State) (f : Pins → Pins) : (s.modPins f).history = s.history := rfl
@[simp] theorem State.modPins_prompts (s : State) (f : Pins → Pins) : (s.modPins f).prompts = s.prompts := rfl
@[simp] theorem State.modPins_join (s : State) (f : Pins → Pins) : (s.modPins f).join = s.join := rfl
@[simp] theorem State.modPins_pending (s : State) (f : Pins → Pins) : (s.modPins f).pending = s.pending := rfl

@[simp] theorem State.readPins_now (s : State) (pins : BitVec 6) : (s.readPins pins).now = s.now := rfl
@[simp] theorem State.readPins_rbi (s : State) (pins : BitVec 6) : (s.readPins pins).rbi = s.rbi := rfl
@[simp] theorem State.readPins_handler (s : State) (pins : BitVec 6) : (s.readPins pins).handler = s.handler := rfl
@[simp] theorem State.readPins_view (s : State) (pins : BitVec 6) : (s.readPins pins).view = s.view := rfl
@[simp] theorem State.readPins_claims (s : State) (pins : BitVec 6) : (s.readPins pins).claims = s.claims := rfl
@[simp] theorem State.readPins_plan (s : State) (pins : BitVec 6) : (s.readPins pins).plan = s.plan := rfl
@[simp] theorem State.readPins_nest (s : State) (pins : BitVec 6) : (s.readPins pins).nest = s.nest := rfl
@[simp] theorem State.readPins_stim (s : State) (pins : BitVec 6) : (s.readPins pins).stim = s.stim := rfl
@[simp] theorem State.readPins_net (s : State) (pins : BitVec 6) : (s.readPins pins).net = s.net := rfl
@[simp] theorem State.readPins_capture (s : State) (pins : BitVec 6) : (s.readPins pins).capture = s.capture := rfl
@[simp] theorem State.readPins_sense (s : State) (pins : BitVec 6) : (s.readPins pins).sense = s.sense := rfl
@[simp] theorem State.readPins_engine (s : State) (pins : BitVec 6) : (s.readPins pins).engine = s.engine := rfl
@[simp] theorem State.readPins_store (s : State) (pins : BitVec 6) : (s.readPins pins).store = s.store := rfl
@[simp] theorem State.readPins_history (s : State) (pins : BitVec 6) : (s.readPins pins).history = s.history := rfl
@[simp] theorem State.readPins_prompts (s : State) (pins : BitVec 6) : (s.readPins pins).prompts = s.prompts := rfl
@[simp] theorem State.readPins_join (s : State) (pins : BitVec 6) : (s.readPins pins).join = s.join := rfl
@[simp] theorem State.readPins_pending (s : State) (pins : BitVec 6) : (s.readPins pins).pending = s.pending := rfl
@[simp] theorem State.readPins_fixture (s : State) (pins : BitVec 6) : (s.readPins pins).pins.fixture = pins := rfl

@[simp] theorem State.modRbi_now (s : State) (f : Rbi → Rbi) : (s.modRbi f).now = s.now := rfl
@[simp] theorem State.modRbi_pins (s : State) (f : Rbi → Rbi) : (s.modRbi f).pins = s.pins := rfl
@[simp] theorem State.modRbi_rbi (s : State) (f : Rbi → Rbi) : (s.modRbi f).rbi = f s.rbi := rfl
@[simp] theorem State.modRbi_handler (s : State) (f : Rbi → Rbi) : (s.modRbi f).handler = s.handler := rfl
@[simp] theorem State.modRbi_view (s : State) (f : Rbi → Rbi) : (s.modRbi f).view = s.view := rfl
@[simp] theorem State.modRbi_claims (s : State) (f : Rbi → Rbi) : (s.modRbi f).claims = s.claims := rfl
@[simp] theorem State.modRbi_plan (s : State) (f : Rbi → Rbi) : (s.modRbi f).plan = s.plan := rfl
@[simp] theorem State.modRbi_nest (s : State) (f : Rbi → Rbi) : (s.modRbi f).nest = s.nest := rfl
@[simp] theorem State.modRbi_stim (s : State) (f : Rbi → Rbi) : (s.modRbi f).stim = s.stim := rfl
@[simp] theorem State.modRbi_net (s : State) (f : Rbi → Rbi) : (s.modRbi f).net = s.net := rfl
@[simp] theorem State.modRbi_capture (s : State) (f : Rbi → Rbi) : (s.modRbi f).capture = s.capture := rfl
@[simp] theorem State.modRbi_sense (s : State) (f : Rbi → Rbi) : (s.modRbi f).sense = s.sense := rfl
@[simp] theorem State.modRbi_engine (s : State) (f : Rbi → Rbi) : (s.modRbi f).engine = s.engine := rfl
@[simp] theorem State.modRbi_store (s : State) (f : Rbi → Rbi) : (s.modRbi f).store = s.store := rfl
@[simp] theorem State.modRbi_history (s : State) (f : Rbi → Rbi) : (s.modRbi f).history = s.history := rfl
@[simp] theorem State.modRbi_prompts (s : State) (f : Rbi → Rbi) : (s.modRbi f).prompts = s.prompts := rfl
@[simp] theorem State.modRbi_join (s : State) (f : Rbi → Rbi) : (s.modRbi f).join = s.join := rfl
@[simp] theorem State.modRbi_pending (s : State) (f : Rbi → Rbi) : (s.modRbi f).pending = s.pending := rfl

@[simp] theorem State.modHandler_now (s : State) (f : Handler → Handler) : (s.modHandler f).now = s.now := rfl
@[simp] theorem State.modHandler_pins (s : State) (f : Handler → Handler) : (s.modHandler f).pins = s.pins := rfl
@[simp] theorem State.modHandler_rbi (s : State) (f : Handler → Handler) : (s.modHandler f).rbi = s.rbi := rfl
@[simp] theorem State.modHandler_handler (s : State) (f : Handler → Handler) : (s.modHandler f).handler = f s.handler := rfl
@[simp] theorem State.modHandler_view (s : State) (f : Handler → Handler) : (s.modHandler f).view = s.view := rfl
@[simp] theorem State.modHandler_claims (s : State) (f : Handler → Handler) : (s.modHandler f).claims = s.claims := rfl
@[simp] theorem State.modHandler_plan (s : State) (f : Handler → Handler) : (s.modHandler f).plan = s.plan := rfl
@[simp] theorem State.modHandler_nest (s : State) (f : Handler → Handler) : (s.modHandler f).nest = s.nest := rfl
@[simp] theorem State.modHandler_stim (s : State) (f : Handler → Handler) : (s.modHandler f).stim = s.stim := rfl
@[simp] theorem State.modHandler_net (s : State) (f : Handler → Handler) : (s.modHandler f).net = s.net := rfl
@[simp] theorem State.modHandler_capture (s : State) (f : Handler → Handler) : (s.modHandler f).capture = s.capture := rfl
@[simp] theorem State.modHandler_sense (s : State) (f : Handler → Handler) : (s.modHandler f).sense = s.sense := rfl
@[simp] theorem State.modHandler_engine (s : State) (f : Handler → Handler) : (s.modHandler f).engine = s.engine := rfl
@[simp] theorem State.modHandler_store (s : State) (f : Handler → Handler) : (s.modHandler f).store = s.store := rfl
@[simp] theorem State.modHandler_history (s : State) (f : Handler → Handler) : (s.modHandler f).history = s.history := rfl
@[simp] theorem State.modHandler_prompts (s : State) (f : Handler → Handler) : (s.modHandler f).prompts = s.prompts := rfl
@[simp] theorem State.modHandler_join (s : State) (f : Handler → Handler) : (s.modHandler f).join = s.join := rfl
@[simp] theorem State.modHandler_pending (s : State) (f : Handler → Handler) : (s.modHandler f).pending = s.pending := rfl

@[simp] theorem State.modView_now (s : State) (f : View → View) : (s.modView f).now = s.now := rfl
@[simp] theorem State.modView_pins (s : State) (f : View → View) : (s.modView f).pins = s.pins := rfl
@[simp] theorem State.modView_rbi (s : State) (f : View → View) : (s.modView f).rbi = s.rbi := rfl
@[simp] theorem State.modView_handler (s : State) (f : View → View) : (s.modView f).handler = s.handler := rfl
@[simp] theorem State.modView_view (s : State) (f : View → View) : (s.modView f).view = f s.view := rfl
@[simp] theorem State.modView_claims (s : State) (f : View → View) : (s.modView f).claims = s.claims := rfl
@[simp] theorem State.modView_plan (s : State) (f : View → View) : (s.modView f).plan = s.plan := rfl
@[simp] theorem State.modView_nest (s : State) (f : View → View) : (s.modView f).nest = s.nest := rfl
@[simp] theorem State.modView_stim (s : State) (f : View → View) : (s.modView f).stim = s.stim := rfl
@[simp] theorem State.modView_net (s : State) (f : View → View) : (s.modView f).net = s.net := rfl
@[simp] theorem State.modView_capture (s : State) (f : View → View) : (s.modView f).capture = s.capture := rfl
@[simp] theorem State.modView_sense (s : State) (f : View → View) : (s.modView f).sense = s.sense := rfl
@[simp] theorem State.modView_engine (s : State) (f : View → View) : (s.modView f).engine = s.engine := rfl
@[simp] theorem State.modView_store (s : State) (f : View → View) : (s.modView f).store = s.store := rfl
@[simp] theorem State.modView_history (s : State) (f : View → View) : (s.modView f).history = s.history := rfl
@[simp] theorem State.modView_prompts (s : State) (f : View → View) : (s.modView f).prompts = s.prompts := rfl
@[simp] theorem State.modView_join (s : State) (f : View → View) : (s.modView f).join = s.join := rfl
@[simp] theorem State.modView_pending (s : State) (f : View → View) : (s.modView f).pending = s.pending := rfl

@[simp] theorem State.modClaims_now (s : State) (f : Claims → Claims) : (s.modClaims f).now = s.now := rfl
@[simp] theorem State.modClaims_pins (s : State) (f : Claims → Claims) : (s.modClaims f).pins = s.pins := rfl
@[simp] theorem State.modClaims_rbi (s : State) (f : Claims → Claims) : (s.modClaims f).rbi = s.rbi := rfl
@[simp] theorem State.modClaims_handler (s : State) (f : Claims → Claims) : (s.modClaims f).handler = s.handler := rfl
@[simp] theorem State.modClaims_view (s : State) (f : Claims → Claims) : (s.modClaims f).view = s.view := rfl
@[simp] theorem State.modClaims_claims (s : State) (f : Claims → Claims) : (s.modClaims f).claims = f s.claims := rfl
@[simp] theorem State.modClaims_plan (s : State) (f : Claims → Claims) : (s.modClaims f).plan = s.plan := rfl
@[simp] theorem State.modClaims_nest (s : State) (f : Claims → Claims) : (s.modClaims f).nest = s.nest := rfl
@[simp] theorem State.modClaims_stim (s : State) (f : Claims → Claims) : (s.modClaims f).stim = s.stim := rfl
@[simp] theorem State.modClaims_net (s : State) (f : Claims → Claims) : (s.modClaims f).net = s.net := rfl
@[simp] theorem State.modClaims_capture (s : State) (f : Claims → Claims) : (s.modClaims f).capture = s.capture := rfl
@[simp] theorem State.modClaims_sense (s : State) (f : Claims → Claims) : (s.modClaims f).sense = s.sense := rfl
@[simp] theorem State.modClaims_engine (s : State) (f : Claims → Claims) : (s.modClaims f).engine = s.engine := rfl
@[simp] theorem State.modClaims_store (s : State) (f : Claims → Claims) : (s.modClaims f).store = s.store := rfl
@[simp] theorem State.modClaims_history (s : State) (f : Claims → Claims) : (s.modClaims f).history = s.history := rfl
@[simp] theorem State.modClaims_prompts (s : State) (f : Claims → Claims) : (s.modClaims f).prompts = s.prompts := rfl
@[simp] theorem State.modClaims_join (s : State) (f : Claims → Claims) : (s.modClaims f).join = s.join := rfl
@[simp] theorem State.modClaims_pending (s : State) (f : Claims → Claims) : (s.modClaims f).pending = s.pending := rfl

@[simp] theorem State.modPlan_now (s : State) (f : Plan → Plan) : (s.modPlan f).now = s.now := rfl
@[simp] theorem State.modPlan_pins (s : State) (f : Plan → Plan) : (s.modPlan f).pins = s.pins := rfl
@[simp] theorem State.modPlan_rbi (s : State) (f : Plan → Plan) : (s.modPlan f).rbi = s.rbi := rfl
@[simp] theorem State.modPlan_handler (s : State) (f : Plan → Plan) : (s.modPlan f).handler = s.handler := rfl
@[simp] theorem State.modPlan_view (s : State) (f : Plan → Plan) : (s.modPlan f).view = s.view := rfl
@[simp] theorem State.modPlan_claims (s : State) (f : Plan → Plan) : (s.modPlan f).claims = s.claims := rfl
@[simp] theorem State.modPlan_plan (s : State) (f : Plan → Plan) : (s.modPlan f).plan = f s.plan := rfl
@[simp] theorem State.modPlan_nest (s : State) (f : Plan → Plan) : (s.modPlan f).nest = s.nest := rfl
@[simp] theorem State.modPlan_stim (s : State) (f : Plan → Plan) : (s.modPlan f).stim = s.stim := rfl
@[simp] theorem State.modPlan_net (s : State) (f : Plan → Plan) : (s.modPlan f).net = s.net := rfl
@[simp] theorem State.modPlan_capture (s : State) (f : Plan → Plan) : (s.modPlan f).capture = s.capture := rfl
@[simp] theorem State.modPlan_sense (s : State) (f : Plan → Plan) : (s.modPlan f).sense = s.sense := rfl
@[simp] theorem State.modPlan_engine (s : State) (f : Plan → Plan) : (s.modPlan f).engine = s.engine := rfl
@[simp] theorem State.modPlan_store (s : State) (f : Plan → Plan) : (s.modPlan f).store = s.store := rfl
@[simp] theorem State.modPlan_history (s : State) (f : Plan → Plan) : (s.modPlan f).history = s.history := rfl
@[simp] theorem State.modPlan_prompts (s : State) (f : Plan → Plan) : (s.modPlan f).prompts = s.prompts := rfl
@[simp] theorem State.modPlan_join (s : State) (f : Plan → Plan) : (s.modPlan f).join = s.join := rfl
@[simp] theorem State.modPlan_pending (s : State) (f : Plan → Plan) : (s.modPlan f).pending = s.pending := rfl

@[simp] theorem State.modNest_now (s : State) (f : Nest → Nest) : (s.modNest f).now = s.now := rfl
@[simp] theorem State.modNest_pins (s : State) (f : Nest → Nest) : (s.modNest f).pins = s.pins := rfl
@[simp] theorem State.modNest_rbi (s : State) (f : Nest → Nest) : (s.modNest f).rbi = s.rbi := rfl
@[simp] theorem State.modNest_handler (s : State) (f : Nest → Nest) : (s.modNest f).handler = s.handler := rfl
@[simp] theorem State.modNest_view (s : State) (f : Nest → Nest) : (s.modNest f).view = s.view := rfl
@[simp] theorem State.modNest_claims (s : State) (f : Nest → Nest) : (s.modNest f).claims = s.claims := rfl
@[simp] theorem State.modNest_plan (s : State) (f : Nest → Nest) : (s.modNest f).plan = s.plan := rfl
@[simp] theorem State.modNest_nest (s : State) (f : Nest → Nest) : (s.modNest f).nest = f s.nest := rfl
@[simp] theorem State.modNest_stim (s : State) (f : Nest → Nest) : (s.modNest f).stim = s.stim := rfl
@[simp] theorem State.modNest_net (s : State) (f : Nest → Nest) : (s.modNest f).net = s.net := rfl
@[simp] theorem State.modNest_capture (s : State) (f : Nest → Nest) : (s.modNest f).capture = s.capture := rfl
@[simp] theorem State.modNest_sense (s : State) (f : Nest → Nest) : (s.modNest f).sense = s.sense := rfl
@[simp] theorem State.modNest_engine (s : State) (f : Nest → Nest) : (s.modNest f).engine = s.engine := rfl
@[simp] theorem State.modNest_store (s : State) (f : Nest → Nest) : (s.modNest f).store = s.store := rfl
@[simp] theorem State.modNest_history (s : State) (f : Nest → Nest) : (s.modNest f).history = s.history := rfl
@[simp] theorem State.modNest_prompts (s : State) (f : Nest → Nest) : (s.modNest f).prompts = s.prompts := rfl
@[simp] theorem State.modNest_join (s : State) (f : Nest → Nest) : (s.modNest f).join = s.join := rfl
@[simp] theorem State.modNest_pending (s : State) (f : Nest → Nest) : (s.modNest f).pending = s.pending := rfl

@[simp] theorem State.modStim_now (s : State) (f : Stim → Stim) : (s.modStim f).now = s.now := rfl
@[simp] theorem State.modStim_pins (s : State) (f : Stim → Stim) : (s.modStim f).pins = s.pins := rfl
@[simp] theorem State.modStim_rbi (s : State) (f : Stim → Stim) : (s.modStim f).rbi = s.rbi := rfl
@[simp] theorem State.modStim_handler (s : State) (f : Stim → Stim) : (s.modStim f).handler = s.handler := rfl
@[simp] theorem State.modStim_view (s : State) (f : Stim → Stim) : (s.modStim f).view = s.view := rfl
@[simp] theorem State.modStim_claims (s : State) (f : Stim → Stim) : (s.modStim f).claims = s.claims := rfl
@[simp] theorem State.modStim_plan (s : State) (f : Stim → Stim) : (s.modStim f).plan = s.plan := rfl
@[simp] theorem State.modStim_nest (s : State) (f : Stim → Stim) : (s.modStim f).nest = s.nest := rfl
@[simp] theorem State.modStim_stim (s : State) (f : Stim → Stim) : (s.modStim f).stim = f s.stim := rfl
@[simp] theorem State.modStim_net (s : State) (f : Stim → Stim) : (s.modStim f).net = s.net := rfl
@[simp] theorem State.modStim_capture (s : State) (f : Stim → Stim) : (s.modStim f).capture = s.capture := rfl
@[simp] theorem State.modStim_sense (s : State) (f : Stim → Stim) : (s.modStim f).sense = s.sense := rfl
@[simp] theorem State.modStim_engine (s : State) (f : Stim → Stim) : (s.modStim f).engine = s.engine := rfl
@[simp] theorem State.modStim_store (s : State) (f : Stim → Stim) : (s.modStim f).store = s.store := rfl
@[simp] theorem State.modStim_history (s : State) (f : Stim → Stim) : (s.modStim f).history = s.history := rfl
@[simp] theorem State.modStim_prompts (s : State) (f : Stim → Stim) : (s.modStim f).prompts = s.prompts := rfl
@[simp] theorem State.modStim_join (s : State) (f : Stim → Stim) : (s.modStim f).join = s.join := rfl
@[simp] theorem State.modStim_pending (s : State) (f : Stim → Stim) : (s.modStim f).pending = s.pending := rfl

@[simp] theorem State.modNet_now (s : State) (f : Net → Net) : (s.modNet f).now = s.now := rfl
@[simp] theorem State.modNet_pins (s : State) (f : Net → Net) : (s.modNet f).pins = s.pins := rfl
@[simp] theorem State.modNet_rbi (s : State) (f : Net → Net) : (s.modNet f).rbi = s.rbi := rfl
@[simp] theorem State.modNet_handler (s : State) (f : Net → Net) : (s.modNet f).handler = s.handler := rfl
@[simp] theorem State.modNet_view (s : State) (f : Net → Net) : (s.modNet f).view = s.view := rfl
@[simp] theorem State.modNet_claims (s : State) (f : Net → Net) : (s.modNet f).claims = s.claims := rfl
@[simp] theorem State.modNet_plan (s : State) (f : Net → Net) : (s.modNet f).plan = s.plan := rfl
@[simp] theorem State.modNet_nest (s : State) (f : Net → Net) : (s.modNet f).nest = s.nest := rfl
@[simp] theorem State.modNet_stim (s : State) (f : Net → Net) : (s.modNet f).stim = s.stim := rfl
@[simp] theorem State.modNet_net (s : State) (f : Net → Net) : (s.modNet f).net = f s.net := rfl
@[simp] theorem State.modNet_capture (s : State) (f : Net → Net) : (s.modNet f).capture = s.capture := rfl
@[simp] theorem State.modNet_sense (s : State) (f : Net → Net) : (s.modNet f).sense = s.sense := rfl
@[simp] theorem State.modNet_engine (s : State) (f : Net → Net) : (s.modNet f).engine = s.engine := rfl
@[simp] theorem State.modNet_store (s : State) (f : Net → Net) : (s.modNet f).store = s.store := rfl
@[simp] theorem State.modNet_history (s : State) (f : Net → Net) : (s.modNet f).history = s.history := rfl
@[simp] theorem State.modNet_prompts (s : State) (f : Net → Net) : (s.modNet f).prompts = s.prompts := rfl
@[simp] theorem State.modNet_join (s : State) (f : Net → Net) : (s.modNet f).join = s.join := rfl
@[simp] theorem State.modNet_pending (s : State) (f : Net → Net) : (s.modNet f).pending = s.pending := rfl

@[simp] theorem State.modCapture_now (s : State) (f : CaptureTable → CaptureTable) : (s.modCapture f).now = s.now := rfl
@[simp] theorem State.modCapture_pins (s : State) (f : CaptureTable → CaptureTable) : (s.modCapture f).pins = s.pins := rfl
@[simp] theorem State.modCapture_rbi (s : State) (f : CaptureTable → CaptureTable) : (s.modCapture f).rbi = s.rbi := rfl
@[simp] theorem State.modCapture_handler (s : State) (f : CaptureTable → CaptureTable) : (s.modCapture f).handler = s.handler := rfl
@[simp] theorem State.modCapture_view (s : State) (f : CaptureTable → CaptureTable) : (s.modCapture f).view = s.view := rfl
@[simp] theorem State.modCapture_claims (s : State) (f : CaptureTable → CaptureTable) : (s.modCapture f).claims = s.claims := rfl
@[simp] theorem State.modCapture_plan (s : State) (f : CaptureTable → CaptureTable) : (s.modCapture f).plan = s.plan := rfl
@[simp] theorem State.modCapture_nest (s : State) (f : CaptureTable → CaptureTable) : (s.modCapture f).nest = s.nest := rfl
@[simp] theorem State.modCapture_stim (s : State) (f : CaptureTable → CaptureTable) : (s.modCapture f).stim = s.stim := rfl
@[simp] theorem State.modCapture_net (s : State) (f : CaptureTable → CaptureTable) : (s.modCapture f).net = s.net := rfl
@[simp] theorem State.modCapture_capture (s : State) (f : CaptureTable → CaptureTable) : (s.modCapture f).capture = f s.capture := rfl
@[simp] theorem State.modCapture_sense (s : State) (f : CaptureTable → CaptureTable) : (s.modCapture f).sense = s.sense := rfl
@[simp] theorem State.modCapture_engine (s : State) (f : CaptureTable → CaptureTable) : (s.modCapture f).engine = s.engine := rfl
@[simp] theorem State.modCapture_store (s : State) (f : CaptureTable → CaptureTable) : (s.modCapture f).store = s.store := rfl
@[simp] theorem State.modCapture_history (s : State) (f : CaptureTable → CaptureTable) : (s.modCapture f).history = s.history := rfl
@[simp] theorem State.modCapture_prompts (s : State) (f : CaptureTable → CaptureTable) : (s.modCapture f).prompts = s.prompts := rfl
@[simp] theorem State.modCapture_join (s : State) (f : CaptureTable → CaptureTable) : (s.modCapture f).join = s.join := rfl
@[simp] theorem State.modCapture_pending (s : State) (f : CaptureTable → CaptureTable) : (s.modCapture f).pending = s.pending := rfl

@[simp] theorem State.modSense_now (s : State) (f : Sense → Sense) : (s.modSense f).now = s.now := rfl
@[simp] theorem State.modSense_pins (s : State) (f : Sense → Sense) : (s.modSense f).pins = s.pins := rfl
@[simp] theorem State.modSense_rbi (s : State) (f : Sense → Sense) : (s.modSense f).rbi = s.rbi := rfl
@[simp] theorem State.modSense_handler (s : State) (f : Sense → Sense) : (s.modSense f).handler = s.handler := rfl
@[simp] theorem State.modSense_view (s : State) (f : Sense → Sense) : (s.modSense f).view = s.view := rfl
@[simp] theorem State.modSense_claims (s : State) (f : Sense → Sense) : (s.modSense f).claims = s.claims := rfl
@[simp] theorem State.modSense_plan (s : State) (f : Sense → Sense) : (s.modSense f).plan = s.plan := rfl
@[simp] theorem State.modSense_nest (s : State) (f : Sense → Sense) : (s.modSense f).nest = s.nest := rfl
@[simp] theorem State.modSense_stim (s : State) (f : Sense → Sense) : (s.modSense f).stim = s.stim := rfl
@[simp] theorem State.modSense_net (s : State) (f : Sense → Sense) : (s.modSense f).net = s.net := rfl
@[simp] theorem State.modSense_capture (s : State) (f : Sense → Sense) : (s.modSense f).capture = s.capture := rfl
@[simp] theorem State.modSense_sense (s : State) (f : Sense → Sense) : (s.modSense f).sense = f s.sense := rfl
@[simp] theorem State.modSense_engine (s : State) (f : Sense → Sense) : (s.modSense f).engine = s.engine := rfl
@[simp] theorem State.modSense_store (s : State) (f : Sense → Sense) : (s.modSense f).store = s.store := rfl
@[simp] theorem State.modSense_history (s : State) (f : Sense → Sense) : (s.modSense f).history = s.history := rfl
@[simp] theorem State.modSense_prompts (s : State) (f : Sense → Sense) : (s.modSense f).prompts = s.prompts := rfl
@[simp] theorem State.modSense_join (s : State) (f : Sense → Sense) : (s.modSense f).join = s.join := rfl
@[simp] theorem State.modSense_pending (s : State) (f : Sense → Sense) : (s.modSense f).pending = s.pending := rfl

@[simp] theorem State.modEngine_now (s : State) (f : Engine → Engine) : (s.modEngine f).now = s.now := rfl
@[simp] theorem State.modEngine_pins (s : State) (f : Engine → Engine) : (s.modEngine f).pins = s.pins := rfl
@[simp] theorem State.modEngine_rbi (s : State) (f : Engine → Engine) : (s.modEngine f).rbi = s.rbi := rfl
@[simp] theorem State.modEngine_handler (s : State) (f : Engine → Engine) : (s.modEngine f).handler = s.handler := rfl
@[simp] theorem State.modEngine_view (s : State) (f : Engine → Engine) : (s.modEngine f).view = s.view := rfl
@[simp] theorem State.modEngine_claims (s : State) (f : Engine → Engine) : (s.modEngine f).claims = s.claims := rfl
@[simp] theorem State.modEngine_plan (s : State) (f : Engine → Engine) : (s.modEngine f).plan = s.plan := rfl
@[simp] theorem State.modEngine_nest (s : State) (f : Engine → Engine) : (s.modEngine f).nest = s.nest := rfl
@[simp] theorem State.modEngine_stim (s : State) (f : Engine → Engine) : (s.modEngine f).stim = s.stim := rfl
@[simp] theorem State.modEngine_net (s : State) (f : Engine → Engine) : (s.modEngine f).net = s.net := rfl
@[simp] theorem State.modEngine_capture (s : State) (f : Engine → Engine) : (s.modEngine f).capture = s.capture := rfl
@[simp] theorem State.modEngine_sense (s : State) (f : Engine → Engine) : (s.modEngine f).sense = s.sense := rfl
@[simp] theorem State.modEngine_engine (s : State) (f : Engine → Engine) : (s.modEngine f).engine = f s.engine := rfl
@[simp] theorem State.modEngine_store (s : State) (f : Engine → Engine) : (s.modEngine f).store = s.store := rfl
@[simp] theorem State.modEngine_history (s : State) (f : Engine → Engine) : (s.modEngine f).history = s.history := rfl
@[simp] theorem State.modEngine_prompts (s : State) (f : Engine → Engine) : (s.modEngine f).prompts = s.prompts := rfl
@[simp] theorem State.modEngine_join (s : State) (f : Engine → Engine) : (s.modEngine f).join = s.join := rfl
@[simp] theorem State.modEngine_pending (s : State) (f : Engine → Engine) : (s.modEngine f).pending = s.pending := rfl

@[simp] theorem State.modStore_now (s : State) (f : VerdictStore → VerdictStore) : (s.modStore f).now = s.now := rfl
@[simp] theorem State.modStore_pins (s : State) (f : VerdictStore → VerdictStore) : (s.modStore f).pins = s.pins := rfl
@[simp] theorem State.modStore_rbi (s : State) (f : VerdictStore → VerdictStore) : (s.modStore f).rbi = s.rbi := rfl
@[simp] theorem State.modStore_handler (s : State) (f : VerdictStore → VerdictStore) : (s.modStore f).handler = s.handler := rfl
@[simp] theorem State.modStore_view (s : State) (f : VerdictStore → VerdictStore) : (s.modStore f).view = s.view := rfl
@[simp] theorem State.modStore_claims (s : State) (f : VerdictStore → VerdictStore) : (s.modStore f).claims = s.claims := rfl
@[simp] theorem State.modStore_plan (s : State) (f : VerdictStore → VerdictStore) : (s.modStore f).plan = s.plan := rfl
@[simp] theorem State.modStore_nest (s : State) (f : VerdictStore → VerdictStore) : (s.modStore f).nest = s.nest := rfl
@[simp] theorem State.modStore_stim (s : State) (f : VerdictStore → VerdictStore) : (s.modStore f).stim = s.stim := rfl
@[simp] theorem State.modStore_net (s : State) (f : VerdictStore → VerdictStore) : (s.modStore f).net = s.net := rfl
@[simp] theorem State.modStore_capture (s : State) (f : VerdictStore → VerdictStore) : (s.modStore f).capture = s.capture := rfl
@[simp] theorem State.modStore_sense (s : State) (f : VerdictStore → VerdictStore) : (s.modStore f).sense = s.sense := rfl
@[simp] theorem State.modStore_engine (s : State) (f : VerdictStore → VerdictStore) : (s.modStore f).engine = s.engine := rfl
@[simp] theorem State.modStore_store (s : State) (f : VerdictStore → VerdictStore) : (s.modStore f).store = f s.store := rfl
@[simp] theorem State.modStore_history (s : State) (f : VerdictStore → VerdictStore) : (s.modStore f).history = s.history := rfl
@[simp] theorem State.modStore_prompts (s : State) (f : VerdictStore → VerdictStore) : (s.modStore f).prompts = s.prompts := rfl
@[simp] theorem State.modStore_join (s : State) (f : VerdictStore → VerdictStore) : (s.modStore f).join = s.join := rfl
@[simp] theorem State.modStore_pending (s : State) (f : VerdictStore → VerdictStore) : (s.modStore f).pending = s.pending := rfl

@[simp] theorem State.modHistory_now (s : State) (f : List HistoryEntry → List HistoryEntry) : (s.modHistory f).now = s.now := rfl
@[simp] theorem State.modHistory_pins (s : State) (f : List HistoryEntry → List HistoryEntry) : (s.modHistory f).pins = s.pins := rfl
@[simp] theorem State.modHistory_rbi (s : State) (f : List HistoryEntry → List HistoryEntry) : (s.modHistory f).rbi = s.rbi := rfl
@[simp] theorem State.modHistory_handler (s : State) (f : List HistoryEntry → List HistoryEntry) : (s.modHistory f).handler = s.handler := rfl
@[simp] theorem State.modHistory_view (s : State) (f : List HistoryEntry → List HistoryEntry) : (s.modHistory f).view = s.view := rfl
@[simp] theorem State.modHistory_claims (s : State) (f : List HistoryEntry → List HistoryEntry) : (s.modHistory f).claims = s.claims := rfl
@[simp] theorem State.modHistory_plan (s : State) (f : List HistoryEntry → List HistoryEntry) : (s.modHistory f).plan = s.plan := rfl
@[simp] theorem State.modHistory_nest (s : State) (f : List HistoryEntry → List HistoryEntry) : (s.modHistory f).nest = s.nest := rfl
@[simp] theorem State.modHistory_stim (s : State) (f : List HistoryEntry → List HistoryEntry) : (s.modHistory f).stim = s.stim := rfl
@[simp] theorem State.modHistory_net (s : State) (f : List HistoryEntry → List HistoryEntry) : (s.modHistory f).net = s.net := rfl
@[simp] theorem State.modHistory_capture (s : State) (f : List HistoryEntry → List HistoryEntry) : (s.modHistory f).capture = s.capture := rfl
@[simp] theorem State.modHistory_sense (s : State) (f : List HistoryEntry → List HistoryEntry) : (s.modHistory f).sense = s.sense := rfl
@[simp] theorem State.modHistory_engine (s : State) (f : List HistoryEntry → List HistoryEntry) : (s.modHistory f).engine = s.engine := rfl
@[simp] theorem State.modHistory_store (s : State) (f : List HistoryEntry → List HistoryEntry) : (s.modHistory f).store = s.store := rfl
@[simp] theorem State.modHistory_history (s : State) (f : List HistoryEntry → List HistoryEntry) : (s.modHistory f).history = f s.history := rfl
@[simp] theorem State.modHistory_prompts (s : State) (f : List HistoryEntry → List HistoryEntry) : (s.modHistory f).prompts = s.prompts := rfl
@[simp] theorem State.modHistory_join (s : State) (f : List HistoryEntry → List HistoryEntry) : (s.modHistory f).join = s.join := rfl
@[simp] theorem State.modHistory_pending (s : State) (f : List HistoryEntry → List HistoryEntry) : (s.modHistory f).pending = s.pending := rfl

@[simp] theorem State.modPrompts_now (s : State) (f : Prompts → Prompts) : (s.modPrompts f).now = s.now := rfl
@[simp] theorem State.modPrompts_pins (s : State) (f : Prompts → Prompts) : (s.modPrompts f).pins = s.pins := rfl
@[simp] theorem State.modPrompts_rbi (s : State) (f : Prompts → Prompts) : (s.modPrompts f).rbi = s.rbi := rfl
@[simp] theorem State.modPrompts_handler (s : State) (f : Prompts → Prompts) : (s.modPrompts f).handler = s.handler := rfl
@[simp] theorem State.modPrompts_view (s : State) (f : Prompts → Prompts) : (s.modPrompts f).view = s.view := rfl
@[simp] theorem State.modPrompts_claims (s : State) (f : Prompts → Prompts) : (s.modPrompts f).claims = s.claims := rfl
@[simp] theorem State.modPrompts_plan (s : State) (f : Prompts → Prompts) : (s.modPrompts f).plan = s.plan := rfl
@[simp] theorem State.modPrompts_nest (s : State) (f : Prompts → Prompts) : (s.modPrompts f).nest = s.nest := rfl
@[simp] theorem State.modPrompts_stim (s : State) (f : Prompts → Prompts) : (s.modPrompts f).stim = s.stim := rfl
@[simp] theorem State.modPrompts_net (s : State) (f : Prompts → Prompts) : (s.modPrompts f).net = s.net := rfl
@[simp] theorem State.modPrompts_capture (s : State) (f : Prompts → Prompts) : (s.modPrompts f).capture = s.capture := rfl
@[simp] theorem State.modPrompts_sense (s : State) (f : Prompts → Prompts) : (s.modPrompts f).sense = s.sense := rfl
@[simp] theorem State.modPrompts_engine (s : State) (f : Prompts → Prompts) : (s.modPrompts f).engine = s.engine := rfl
@[simp] theorem State.modPrompts_store (s : State) (f : Prompts → Prompts) : (s.modPrompts f).store = s.store := rfl
@[simp] theorem State.modPrompts_history (s : State) (f : Prompts → Prompts) : (s.modPrompts f).history = s.history := rfl
@[simp] theorem State.modPrompts_prompts (s : State) (f : Prompts → Prompts) : (s.modPrompts f).prompts = f s.prompts := rfl
@[simp] theorem State.modPrompts_join (s : State) (f : Prompts → Prompts) : (s.modPrompts f).join = s.join := rfl
@[simp] theorem State.modPrompts_pending (s : State) (f : Prompts → Prompts) : (s.modPrompts f).pending = s.pending := rfl

@[simp] theorem State.modJoin_now (s : State) (f : Join → Join) : (s.modJoin f).now = s.now := rfl
@[simp] theorem State.modJoin_pins (s : State) (f : Join → Join) : (s.modJoin f).pins = s.pins := rfl
@[simp] theorem State.modJoin_rbi (s : State) (f : Join → Join) : (s.modJoin f).rbi = s.rbi := rfl
@[simp] theorem State.modJoin_handler (s : State) (f : Join → Join) : (s.modJoin f).handler = s.handler := rfl
@[simp] theorem State.modJoin_view (s : State) (f : Join → Join) : (s.modJoin f).view = s.view := rfl
@[simp] theorem State.modJoin_claims (s : State) (f : Join → Join) : (s.modJoin f).claims = s.claims := rfl
@[simp] theorem State.modJoin_plan (s : State) (f : Join → Join) : (s.modJoin f).plan = s.plan := rfl
@[simp] theorem State.modJoin_nest (s : State) (f : Join → Join) : (s.modJoin f).nest = s.nest := rfl
@[simp] theorem State.modJoin_stim (s : State) (f : Join → Join) : (s.modJoin f).stim = s.stim := rfl
@[simp] theorem State.modJoin_net (s : State) (f : Join → Join) : (s.modJoin f).net = s.net := rfl
@[simp] theorem State.modJoin_capture (s : State) (f : Join → Join) : (s.modJoin f).capture = s.capture := rfl
@[simp] theorem State.modJoin_sense (s : State) (f : Join → Join) : (s.modJoin f).sense = s.sense := rfl
@[simp] theorem State.modJoin_engine (s : State) (f : Join → Join) : (s.modJoin f).engine = s.engine := rfl
@[simp] theorem State.modJoin_store (s : State) (f : Join → Join) : (s.modJoin f).store = s.store := rfl
@[simp] theorem State.modJoin_history (s : State) (f : Join → Join) : (s.modJoin f).history = s.history := rfl
@[simp] theorem State.modJoin_prompts (s : State) (f : Join → Join) : (s.modJoin f).prompts = s.prompts := rfl
@[simp] theorem State.modJoin_join (s : State) (f : Join → Join) : (s.modJoin f).join = f s.join := rfl
@[simp] theorem State.modJoin_pending (s : State) (f : Join → Join) : (s.modJoin f).pending = s.pending := rfl

@[simp] theorem State.elapse_now (s : State) (dt : Nat) : (s.elapse dt).now = s.now + dt := rfl
@[simp] theorem State.elapse_pins (s : State) (dt : Nat) : (s.elapse dt).pins = s.pins := rfl
@[simp] theorem State.elapse_rbi (s : State) (dt : Nat) : (s.elapse dt).rbi = s.rbi := rfl
@[simp] theorem State.elapse_handler (s : State) (dt : Nat) : (s.elapse dt).handler = s.handler := rfl
@[simp] theorem State.elapse_view (s : State) (dt : Nat) : (s.elapse dt).view = s.view := rfl
@[simp] theorem State.elapse_claims (s : State) (dt : Nat) : (s.elapse dt).claims = s.claims := rfl
@[simp] theorem State.elapse_plan (s : State) (dt : Nat) : (s.elapse dt).plan = s.plan := rfl
@[simp] theorem State.elapse_nest (s : State) (dt : Nat) : (s.elapse dt).nest = s.nest := rfl
@[simp] theorem State.elapse_stim (s : State) (dt : Nat) : (s.elapse dt).stim = s.stim := rfl
@[simp] theorem State.elapse_net (s : State) (dt : Nat) : (s.elapse dt).net = s.net := rfl
@[simp] theorem State.elapse_capture (s : State) (dt : Nat) : (s.elapse dt).capture = s.capture := rfl
@[simp] theorem State.elapse_sense (s : State) (dt : Nat) : (s.elapse dt).sense = s.sense := rfl
@[simp] theorem State.elapse_engine (s : State) (dt : Nat) : (s.elapse dt).engine = s.engine := rfl
@[simp] theorem State.elapse_store (s : State) (dt : Nat) : (s.elapse dt).store = s.store := rfl
@[simp] theorem State.elapse_history (s : State) (dt : Nat) : (s.elapse dt).history = s.history := rfl
@[simp] theorem State.elapse_prompts (s : State) (dt : Nat) : (s.elapse dt).prompts = s.prompts := rfl
@[simp] theorem State.elapse_join (s : State) (dt : Nat) : (s.elapse dt).join = s.join := rfl
@[simp] theorem State.elapse_pending (s : State) (dt : Nat) : (s.elapse dt).pending = s.pending := rfl

@[simp] theorem State.elapseTo_now (s : State) (dt t : Nat) : (s.elapseTo dt t).now = max (s.now + dt) t := rfl
@[simp] theorem State.elapseTo_pins (s : State) (dt t : Nat) : (s.elapseTo dt t).pins = s.pins := rfl
@[simp] theorem State.elapseTo_rbi (s : State) (dt t : Nat) : (s.elapseTo dt t).rbi = s.rbi := rfl
@[simp] theorem State.elapseTo_handler (s : State) (dt t : Nat) : (s.elapseTo dt t).handler = s.handler := rfl
@[simp] theorem State.elapseTo_view (s : State) (dt t : Nat) : (s.elapseTo dt t).view = s.view := rfl
@[simp] theorem State.elapseTo_claims (s : State) (dt t : Nat) : (s.elapseTo dt t).claims = s.claims := rfl
@[simp] theorem State.elapseTo_plan (s : State) (dt t : Nat) : (s.elapseTo dt t).plan = s.plan := rfl
@[simp] theorem State.elapseTo_nest (s : State) (dt t : Nat) : (s.elapseTo dt t).nest = s.nest := rfl
@[simp] theorem State.elapseTo_stim (s : State) (dt t : Nat) : (s.elapseTo dt t).stim = s.stim := rfl
@[simp] theorem State.elapseTo_net (s : State) (dt t : Nat) : (s.elapseTo dt t).net = s.net := rfl
@[simp] theorem State.elapseTo_capture (s : State) (dt t : Nat) : (s.elapseTo dt t).capture = s.capture := rfl
@[simp] theorem State.elapseTo_sense (s : State) (dt t : Nat) : (s.elapseTo dt t).sense = s.sense := rfl
@[simp] theorem State.elapseTo_engine (s : State) (dt t : Nat) : (s.elapseTo dt t).engine = s.engine := rfl
@[simp] theorem State.elapseTo_store (s : State) (dt t : Nat) : (s.elapseTo dt t).store = s.store := rfl
@[simp] theorem State.elapseTo_history (s : State) (dt t : Nat) : (s.elapseTo dt t).history = s.history := rfl
@[simp] theorem State.elapseTo_prompts (s : State) (dt t : Nat) : (s.elapseTo dt t).prompts = s.prompts := rfl
@[simp] theorem State.elapseTo_join (s : State) (dt t : Nat) : (s.elapseTo dt t).join = s.join := rfl
@[simp] theorem State.elapseTo_pending (s : State) (dt t : Nat) : (s.elapseTo dt t).pending = s.pending := rfl

end Sys2Proof.Machine
end

