-- ==== Sys2Proof/Laws/Outer.lean ====
section
/-! SUPPORT. What the operations inside the station leave alone. `State.outer` gathers what no reaction
of an inner block ever changes: the time, the pins, the own address and the bus state, the Command
Handler, the Rack View, the Plan Store, the join machine and the commands waiting. `State.core` gathers
the blocks that the Claim Unit and the Prompt Queue leave alone. One lemma per operation. -/

namespace Sys2Proof.Machine

/-- What no reaction of an inner block changes. -/
structure Outer where
  now     : Nat
  pins    : Pins
  address : Nat
  bus     : BusState
  settle  : Nat
  driven  : Bool
  handler : Handler
  view    : View
  plan    : Plan
  join    : Join
  pending : List Instr

/-- The part of a state that no reaction of an inner block changes. -/
def State.outer (s : State) : Outer :=
  ⟨s.now, s.pins, s.rbi.address, s.rbi.bus, s.rbi.settleFrom, s.rbi.rejectDriven, s.handler, s.view, s.plan, s.join,
   s.pending⟩

/-- What the Claim Unit and the Prompt Queue leave alone. -/
structure Core where
  nest    : Nest
  stim    : Stim
  net     : Net
  capture : CaptureTable
  sense   : Sense
  engine  : Engine
  store   : VerdictStore
  history : List HistoryEntry

/-- The part of a state that the Claim Unit and the Prompt Queue leave alone. -/
def State.core (s : State) : Core :=
  ⟨s.nest, s.stim, s.net, s.capture, s.sense, s.engine, s.store, s.history⟩

@[simp] theorem State.modClaims_outer (s : State) (f : Claims → Claims) : (s.modClaims f).outer = s.outer := rfl
@[simp] theorem State.modNest_outer (s : State) (f : Nest → Nest) : (s.modNest f).outer = s.outer := rfl
@[simp] theorem State.modStim_outer (s : State) (f : Stim → Stim) : (s.modStim f).outer = s.outer := rfl
@[simp] theorem State.modNet_outer (s : State) (f : Net → Net) : (s.modNet f).outer = s.outer := rfl
@[simp] theorem State.modCapture_outer (s : State) (f : CaptureTable → CaptureTable) : (s.modCapture f).outer = s.outer := rfl
@[simp] theorem State.modSense_outer (s : State) (f : Sense → Sense) : (s.modSense f).outer = s.outer := rfl
@[simp] theorem State.modEngine_outer (s : State) (f : Engine → Engine) : (s.modEngine f).outer = s.outer := rfl
@[simp] theorem State.modStore_outer (s : State) (f : VerdictStore → VerdictStore) : (s.modStore f).outer = s.outer := rfl
@[simp] theorem State.modHistory_outer (s : State) (f : List HistoryEntry → List HistoryEntry) : (s.modHistory f).outer = s.outer := rfl
@[simp] theorem State.modPrompts_outer (s : State) (f : Prompts → Prompts) : (s.modPrompts f).outer = s.outer := rfl

@[simp] theorem State.modClaims_core (s : State) (f : Claims → Claims) : (s.modClaims f).core = s.core := rfl
@[simp] theorem State.modPrompts_core (s : State) (f : Prompts → Prompts) : (s.modPrompts f).core = s.core := rfl
@[simp] theorem State.modRbi_core (s : State) (f : Rbi → Rbi) : (s.modRbi f).core = s.core := rfl
@[simp] theorem State.modJoin_core (s : State) (f : Join → Join) : (s.modJoin f).core = s.core := rfl
@[simp] theorem State.modView_core (s : State) (f : View → View) : (s.modView f).core = s.core := rfl
@[simp] theorem State.modPlan_core (s : State) (f : Plan → Plan) : (s.modPlan f).core = s.core := rfl
@[simp] theorem State.modHandler_core (s : State) (f : Handler → Handler) : (s.modHandler f).core = s.core := rfl
@[simp] theorem State.modPins_core (s : State) (f : Pins → Pins) : (s.modPins f).core = s.core := rfl
@[simp] theorem State.elapse_core (s : State) (dt : Nat) : (s.elapse dt).core = s.core := rfl
@[simp] theorem State.elapseTo_core (s : State) (dt t : Nat) : (s.elapseTo dt t).core = s.core := rfl

@[simp] theorem State.send_outer (s : State) (b : TxBody) : (s.send b).outer = s.outer := by
  unfold State.send; repeat' split
  all_goals first | (simp; done) | rfl

@[simp] theorem State.send_core (s : State) (b : TxBody) : (s.send b).core = s.core := by
  unfold State.send; repeat' split
  all_goals first | (simp; done) | rfl

@[simp] theorem State.withdraw_outer (s : State) (p : TxBody → Bool) : (s.withdraw p).outer = s.outer := by
  unfold State.withdraw; repeat' split
  all_goals first | (simp; done) | rfl

@[simp] theorem State.withdraw_core (s : State) (p : TxBody → Bool) : (s.withdraw p).core = s.core := by
  unfold State.withdraw; repeat' split
  all_goals first | (simp; done) | rfl

@[simp] theorem State.networkItem_outer (s : State) (entry action : Nat) (freeze bad : Bool) (forced : Option (Nat × Nat)) : (s.networkItem entry action freeze bad forced).outer = s.outer := by
  unfold State.networkItem; repeat' split
  all_goals first | (simp; done) | rfl

@[simp] theorem State.disableAll_outer (s : State)  : (s.disableAll).outer = s.outer := by
  unfold State.disableAll; repeat' split
  all_goals first | (simp; done) | rfl

@[simp] theorem State.examineAll_outer (s : State)  : (s.examineAll).outer = s.outer := by
  unfold State.examineAll; repeat' split
  all_goals first | (simp; done) | rfl

@[simp] theorem State.clearLate_outer (s : State)  : (s.clearLate).outer = s.outer := by
  unfold State.clearLate; repeat' split
  all_goals first | (simp; done) | rfl

@[simp] theorem State.clearOverrange_outer (s : State)  : (s.clearOverrange).outer = s.outer := by
  unfold State.clearOverrange; repeat' split
  all_goals first | (simp; done) | rfl

@[simp] theorem State.netWarmReset_outer (s : State)  : (s.netWarmReset).outer = s.outer := by
  unfold State.netWarmReset; repeat' split
  all_goals first | (simp; done) | rfl

@[simp] theorem State.disableWhere_outer (s : State) (p : Nat → Bool) : (s.disableWhere p).outer = s.outer := by
  unfold State.disableWhere; repeat' split
  all_goals first | (simp; done) | rfl

@[simp] theorem State.handOff_outer (s : State) (k : Nat) : (s.handOff k).outer = s.outer := by
  unfold State.handOff; repeat' split
  all_goals first | (simp; done) | rfl

@[simp] theorem State.arbiter_outer (s : State)  : (s.arbiter).outer = s.outer := by
  unfold State.arbiter; repeat' split
  all_goals first | (simp; done) | rfl

@[simp] theorem State.sentComplete_outer (s : State)  : (s.sentComplete).outer = s.outer := by
  unfold State.sentComplete; repeat' split
  all_goals first | (simp; done) | rfl

@[simp] theorem State.captureArrive_outer (s : State) (identifier : Nat) (payload : List Byte) : (s.captureArrive identifier payload).1.outer = s.outer := by
  unfold State.captureArrive; repeat' split
  all_goals first | (simp; done) | rfl

@[simp] theorem State.disarm_outer (s : State)  : (s.disarm).outer = s.outer := by
  unfold State.disarm; repeat' split
  all_goals first | (simp; done) | rfl

@[simp] theorem State.armCapture_outer (s : State) (capture start length : Nat) (signed : Bool) : (s.armCapture capture start length signed).outer = s.outer := by
  unfold State.armCapture; repeat' split
  all_goals first | (simp; done) | rfl

@[simp] theorem State.arm_outer (s : State) (forNest : Bool) (src : AcqSource) (gate n : Nat) : (s.arm forNest src gate n).outer = s.outer := by
  unfold State.arm; repeat' split
  all_goals first | (simp; done) | rfl

@[simp] theorem State.emptySlot_outer (s : State)  : (s.emptySlot).outer = s.outer := by
  unfold State.emptySlot; repeat' split
  all_goals first | (simp; done) | rfl

@[simp] theorem State.sampleAll_outer (s : State) (x0 x1 x2 x3 y2 y3 : Nat) : (s.sampleAll x0 x1 x2 x3 y2 y3).outer = s.outer := by
  unfold State.sampleAll; repeat' split
  all_goals first | (simp; done) | rfl

@[simp] theorem State.evaluateList_outer (n : Nat) (l : Slots Condition) (s : State) (evs : List (Nat × Bool)) :
    (State.evaluateList n l s evs).1.outer = s.outer := by
  induction l generalizing s evs with
  | nil => rfl
  | cons e l ih => unfold State.evaluateList; split <;> simp [ih]

@[simp] theorem State.sourceChanged_outer (s : State) (n : Nat) : (s.sourceChanged n).1.outer = s.outer := by
  unfold State.sourceChanged; repeat' split
  all_goals first | (simp; done) | rfl

@[simp] theorem State.initConditions_outer (s : State)  : (s.initConditions).outer = s.outer := by
  unfold State.initConditions; repeat' split
  all_goals first | (simp; done) | rfl

@[simp] theorem State.clearConditions_outer (s : State)  : (s.clearConditions).outer = s.outer := by
  unfold State.clearConditions; repeat' split
  all_goals first | (simp; done) | rfl

@[simp] theorem State.clearClamped_outer (s : State)  : (s.clearClamped).outer = s.outer := by
  unfold State.clearClamped; repeat' split
  all_goals first | (simp; done) | rfl

@[simp] theorem State.onChannel_outer (s : State) (c : Nat) (r : Channel × Bool) : (s.onChannel c r).outer = s.outer := by
  unfold State.onChannel; repeat' split
  all_goals first | (simp; done) | rfl

@[simp] theorem State.settleBudget_outer (s : State) (w : Nat) : (s.settleBudget w).outer = s.outer := by
  unfold State.settleBudget; repeat' split
  all_goals first | (simp; done) | rfl

@[simp] theorem State.settleBudget_core (s : State) (w : Nat) : (s.settleBudget w).core = s.core := by
  unfold State.settleBudget; repeat' split
  all_goals first | (simp; done) | rfl

@[simp] theorem State.needBudget_outer (s : State) (d : Nat) : (s.needBudget d).outer = s.outer := by
  unfold State.needBudget; repeat' split
  all_goals first | (simp; done) | rfl

@[simp] theorem State.needBudget_core (s : State) (d : Nat) : (s.needBudget d).core = s.core := by
  unfold State.needBudget; repeat' split
  all_goals first | (simp; done) | rfl

@[simp] theorem State.safeOutputs_outer (s : State)  : (s.safeOutputs).outer = s.outer := by
  unfold State.safeOutputs; repeat' split
  all_goals first | (simp; done) | rfl

@[simp] theorem State.dropRequest_outer (s : State)  : (s.dropRequest).outer = s.outer := by
  unfold State.dropRequest; repeat' split
  all_goals first | (simp; done) | rfl

@[simp] theorem State.applySafe_outer (s : State)  : (s.applySafe).outer = s.outer := by
  unfold State.applySafe; repeat' split
  all_goals first | (simp; done) | rfl

@[simp] theorem State.applyItem_outer (s : State) (i : SceneItem) : (s.applyItem i).outer = s.outer := by
  unfold State.applyItem; split <;> simp

/-- A fold of an operation that leaves the outer part alone leaves it alone. -/
theorem outer_foldl {α : Type} (f : State → α → State) (h : ∀ s a, (f s a).outer = s.outer) (l : List α) (s : State) :
    (l.foldl f s).outer = s.outer := by
  induction l generalizing s with
  | nil => rfl
  | cons a l ih => simp [ih, h]

/-- A fold of an operation that leaves the core alone leaves it alone. -/
theorem core_foldl {α : Type} (f : State → α → State) (h : ∀ s a, (f s a).core = s.core) (l : List α) (s : State) :
    (l.foldl f s).core = s.core := by
  induction l generalizing s with
  | nil => rfl
  | cons a l ih => simp [ih, h]

@[simp] theorem State.restUnnamed_outer (s : State) (items : List SceneItem) : (s.restUnnamed items).outer = s.outer := by
  unfold State.restUnnamed
  simp only [State.disableWhere_outer]
  exact outer_foldl _ (fun s a => by split <;> simp) _ _

@[simp] theorem State.applyItems_outer (s : State) (scene : Nat) (replace : Bool) : (s.applyItems scene replace).outer = s.outer := by
  unfold State.applyItems
  split
  · simp
  · dsimp only
    split <;> simp [outer_foldl State.applyItem State.applyItem_outer]

@[simp] theorem State.completeScene_outer (s : State)  : (s.completeScene).1.outer = s.outer := by
  unfold State.completeScene; repeat' split
  all_goals first | (simp; done) | rfl

@[simp] theorem State.applyScene_outer (s : State) (scene : Nat) (replace : Bool) : (s.applyScene scene replace).1.outer = s.outer := by
  unfold State.applyScene; repeat' split
  all_goals first | (simp; done) | rfl

@[simp] theorem State.evaluateScene_outer (s : State) (scene : Nat) (replace : Bool) : (s.evaluateScene scene replace).1.outer = s.outer := by
  unfold State.evaluateScene; dsimp only; repeat' split
  all_goals simp

@[simp] theorem State.requestScene_outer (s : State) (scene : Nat) (replace : Bool) : (s.requestScene scene replace).1.outer = s.outer := by
  unfold State.requestScene; repeat' split
  all_goals first | (simp; done) | rfl

@[simp] theorem State.evaluateHeld_outer (s : State)  : (s.evaluateHeld).1.outer = s.outer := by
  unfold State.evaluateHeld; repeat' split
  all_goals first | (simp; done) | rfl

@[simp] theorem State.budgetExpired_outer (s : State)  : (s.budgetExpired).1.outer = s.outer := by
  unfold State.budgetExpired; repeat' split
  all_goals first | (simp; done) | rfl

@[simp] theorem State.driveTest_outer (s : State) (c v : Nat) : (s.driveTest c v).outer = s.outer := by
  unfold State.driveTest; repeat' split
  all_goals first | (simp; done) | rfl

@[simp] theorem State.returnTest_outer (s : State)  : (s.returnTest).outer = s.outer := by
  unfold State.returnTest; repeat' split
  all_goals first | (simp; done) | rfl

@[simp] theorem State.sendDue_outer (s : State) (b : Option TxBody) : (s.sendDue b).outer = s.outer := by
  unfold State.sendDue; repeat' split
  all_goals first | (simp; done) | rfl

@[simp] theorem State.sendDue_core (s : State) (b : Option TxBody) : (s.sendDue b).core = s.core := by
  unfold State.sendDue; repeat' split
  all_goals first | (simp; done) | rfl

@[simp] theorem State.lowerRecords_outer (s : State)  : (s.lowerRecords).outer = s.outer := by
  unfold State.lowerRecords; repeat' split
  all_goals first | (simp; done) | rfl

@[simp] theorem State.lowerRecords_core (s : State)  : (s.lowerRecords).core = s.core := by
  unfold State.lowerRecords; repeat' split
  all_goals first | (simp; done) | rfl

@[simp] theorem State.checkResource_outer (s : State) (r : Resource) : (s.checkResource r).outer = s.outer := by
  unfold State.checkResource; dsimp only; repeat' split
  all_goals simp

@[simp] theorem State.checkResource_core (s : State) (r : Resource) : (s.checkResource r).core = s.core := by
  unfold State.checkResource; dsimp only; repeat' split
  all_goals simp

@[simp] theorem State.startWait_outer (s : State) (r : Resource) : (s.startWait r).outer = s.outer := by
  unfold State.startWait; repeat' split
  all_goals first | (simp; done) | rfl

@[simp] theorem State.startWait_core (s : State) (r : Resource) : (s.startWait r).core = s.core := by
  unfold State.startWait; repeat' split
  all_goals first | (simp; done) | rfl

@[simp] theorem State.claimCheck_outer (s : State)  : (s.claimCheck).outer = s.outer := by
  unfold State.claimCheck; split
  · rfl
  · dsimp only [List.foldl]; simp only [State.startWait_outer, State.checkResource_outer]; split <;> simp

@[simp] theorem State.claimCheck_core (s : State)  : (s.claimCheck).core = s.core := by
  unfold State.claimCheck; split
  · rfl
  · dsimp only [List.foldl]; simp only [State.startWait_core, State.checkResource_core]; split <;> simp

@[simp] theorem State.withdrawEmptyReleases_outer (s : State)  : (s.withdrawEmptyReleases).outer = s.outer := by
  unfold State.withdrawEmptyReleases; repeat' split
  all_goals first | (simp; done) | rfl

@[simp] theorem State.withdrawEmptyReleases_core (s : State)  : (s.withdrawEmptyReleases).core = s.core := by
  unfold State.withdrawEmptyReleases; repeat' split
  all_goals first | (simp; done) | rfl

@[simp] theorem State.claimsHalt_outer (s : State)  : (s.claimsHalt).outer = s.outer := by
  unfold State.claimsHalt; repeat' split
  all_goals first | (simp; done) | rfl

@[simp] theorem State.claimsHalt_core (s : State)  : (s.claimsHalt).core = s.core := by
  unfold State.claimsHalt; repeat' split
  all_goals first | (simp; done) | rfl

@[simp] theorem State.restate_outer (s : State) (before : View) : (s.restate before).outer = s.outer := by
  unfold State.restate; dsimp only
  repeat' split
  all_goals simp [outer_foldl State.send State.send_outer]

@[simp] theorem State.queueMeasure_outer (s : State) (spot exposure : Nat) : (s.queueMeasure spot exposure).outer = s.outer := by
  unfold State.queueMeasure; repeat' split
  all_goals first | (simp; done) | rfl

@[simp] theorem State.queueMeasure_core (s : State) (spot exposure : Nat) : (s.queueMeasure spot exposure).core = s.core := by
  unfold State.queueMeasure; repeat' split
  all_goals first | (simp; done) | rfl

@[simp] theorem State.askMeasure_outer (s : State) (spot exposure : Nat) : (s.askMeasure spot exposure).outer = s.outer := by
  unfold State.askMeasure; repeat' split
  all_goals first | (simp; done) | rfl

@[simp] theorem State.askMeasure_core (s : State) (spot exposure : Nat) : (s.askMeasure spot exposure).core = s.core := by
  unfold State.askMeasure; repeat' split
  all_goals first | (simp; done) | rfl

@[simp] theorem State.releaseHeldBack_outer (s : State)  : (s.releaseHeldBack).outer = s.outer := by
  unfold State.releaseHeldBack; repeat' split
  all_goals first | (simp; done) | rfl

@[simp] theorem State.releaseHeldBack_core (s : State)  : (s.releaseHeldBack).core = s.core := by
  unfold State.releaseHeldBack; repeat' split
  all_goals first | (simp; done) | rfl

@[simp] theorem State.cancelMeasure_outer (s : State)  : (s.cancelMeasure).outer = s.outer := by
  unfold State.cancelMeasure; repeat' split
  all_goals first | (simp; done) | rfl

@[simp] theorem State.cancelMeasure_core (s : State)  : (s.cancelMeasure).core = s.core := by
  unfold State.cancelMeasure; repeat' split
  all_goals first | (simp; done) | rfl

@[simp] theorem State.wantGantry_outer (s : State)  : (s.wantGantry).outer = s.outer := by
  unfold State.wantGantry; repeat' split
  all_goals first | (simp; done) | rfl

@[simp] theorem State.wantGantry_core (s : State)  : (s.wantGantry).core = s.core := by
  unfold State.wantGantry; repeat' split
  all_goals first | (simp; done) | rfl

@[simp] theorem State.endGantry_outer (s : State)  : (s.endGantry).outer = s.outer := by
  unfold State.endGantry; dsimp only; split <;> simp

@[simp] theorem State.endGantry_core (s : State)  : (s.endGantry).core = s.core := by
  unfold State.endGantry; dsimp only; split <;> simp

@[simp] theorem State.measureDelivered_outer (s : State) (tag : Tag) : (s.measureDelivered tag).outer = s.outer := by
  unfold State.measureDelivered; repeat' split
  all_goals first | (simp; done) | rfl

@[simp] theorem State.measureDelivered_core (s : State) (tag : Tag) : (s.measureDelivered tag).core = s.core := by
  unfold State.measureDelivered; repeat' split
  all_goals first | (simp; done) | rfl

@[simp] theorem State.measureRejected_outer (s : State) (tag : Tag) : (s.measureRejected tag).outer = s.outer := by
  unfold State.measureRejected; repeat' split
  all_goals first | (simp; done) | rfl

@[simp] theorem State.measureRejected_core (s : State) (tag : Tag) : (s.measureRejected tag).core = s.core := by
  unfold State.measureRejected; repeat' split
  all_goals first | (simp; done) | rfl

@[simp] theorem State.claimsReset_outer (s : State)  : (s.claimsReset).outer = s.outer := by
  unfold State.claimsReset; repeat' split
  all_goals first | (simp; done) | rfl

@[simp] theorem State.claimsReset_core (s : State)  : (s.claimsReset).core = s.core := by
  unfold State.claimsReset; repeat' split
  all_goals first | (simp; done) | rfl

@[simp] theorem State.syncPanel_outer (s : State)  : (s.syncPanel).outer = s.outer := by
  unfold State.syncPanel; repeat' split
  all_goals first | (simp; done) | rfl

@[simp] theorem State.syncPanel_core (s : State)  : (s.syncPanel).core = s.core := by
  unfold State.syncPanel; repeat' split
  all_goals first | (simp; done) | rfl

@[simp] theorem State.startPanel_outer (s : State)  : (s.startPanel).outer = s.outer := by
  unfold State.startPanel; repeat' split
  all_goals first | (simp; done) | rfl

@[simp] theorem State.startPanel_core (s : State)  : (s.startPanel).core = s.core := by
  unfold State.startPanel; repeat' split
  all_goals first | (simp; done) | rfl

@[simp] theorem State.handOver_outer (s : State) (e : PromptEntry) : (s.handOver e).outer = s.outer := by
  unfold State.handOver; repeat' split
  all_goals first | (simp; done) | rfl

@[simp] theorem State.handOver_core (s : State) (e : PromptEntry) : (s.handOver e).core = s.core := by
  unfold State.handOver; repeat' split
  all_goals first | (simp; done) | rfl

@[simp] theorem State.postEntry_outer (s : State) (p : PromptEntry → Bool) : (s.postEntry p).outer = s.outer := by
  unfold State.postEntry; repeat' split
  all_goals first | (simp; done) | rfl

@[simp] theorem State.postEntry_core (s : State) (p : PromptEntry → Bool) : (s.postEntry p).core = s.core := by
  unfold State.postEntry; repeat' split
  all_goals first | (simp; done) | rfl

@[simp] theorem State.grantPanel_outer (s : State)  : (s.grantPanel).outer = s.outer := by
  unfold State.grantPanel; repeat' split
  all_goals first | (simp; done) | rfl

@[simp] theorem State.grantPanel_core (s : State)  : (s.grantPanel).core = s.core := by
  unfold State.grantPanel; repeat' split
  all_goals first | (simp; done) | rfl

@[simp] theorem State.beginWithdrawal_outer (s : State) (tag : Tag) : (s.beginWithdrawal tag).outer = s.outer := by
  unfold State.beginWithdrawal; repeat' split
  all_goals first | (simp; done) | rfl

@[simp] theorem State.beginWithdrawal_core (s : State) (tag : Tag) : (s.beginWithdrawal tag).core = s.core := by
  unfold State.beginWithdrawal; repeat' split
  all_goals first | (simp; done) | rfl

@[simp] theorem State.postDelivered_outer (s : State) (tag : Tag) : (s.postDelivered tag).outer = s.outer := by
  unfold State.postDelivered; repeat' split
  all_goals first | (simp; done) | rfl

@[simp] theorem State.postDelivered_core (s : State) (tag : Tag) : (s.postDelivered tag).core = s.core := by
  unfold State.postDelivered; repeat' split
  all_goals first | (simp; done) | rfl

@[simp] theorem State.postRejected_outer (s : State) (tag : Tag) : (s.postRejected tag).outer = s.outer := by
  unfold State.postRejected; repeat' split
  all_goals first | (simp; done) | rfl

@[simp] theorem State.postRejected_core (s : State) (tag : Tag) : (s.postRejected tag).core = s.core := by
  unfold State.postRejected; repeat' split
  all_goals first | (simp; done) | rfl

@[simp] theorem State.withdrawDelivered_outer (s : State) (tag : Tag) : (s.withdrawDelivered tag).outer = s.outer := by
  unfold State.withdrawDelivered; repeat' split
  all_goals first | (simp; done) | rfl

@[simp] theorem State.withdrawDelivered_core (s : State) (tag : Tag) : (s.withdrawDelivered tag).core = s.core := by
  unfold State.withdrawDelivered; repeat' split
  all_goals first | (simp; done) | rfl

@[simp] theorem State.withdrawRejected_outer (s : State) (tag : Tag) : (s.withdrawRejected tag).outer = s.outer := by
  unfold State.withdrawRejected; repeat' split
  all_goals first | (simp; done) | rfl

@[simp] theorem State.withdrawRejected_core (s : State) (tag : Tag) : (s.withdrawRejected tag).core = s.core := by
  unfold State.withdrawRejected; repeat' split
  all_goals first | (simp; done) | rfl

@[simp] theorem State.removeEntry_outer (s : State) (src : PromptSource) : (s.removeEntry src).outer = s.outer := by
  unfold State.removeEntry; repeat' split
  all_goals first | (simp; done) | rfl

@[simp] theorem State.removeEntry_core (s : State) (src : PromptSource) : (s.removeEntry src).core = s.core := by
  unfold State.removeEntry; repeat' split
  all_goals first | (simp; done) | rfl

@[simp] theorem State.takeDown_outer (s : State) (src : PromptSource) (tag : Tag) : (s.takeDown src tag).outer = s.outer := by
  unfold State.takeDown; repeat' split
  all_goals first | (simp; done) | rfl

@[simp] theorem State.takeDown_core (s : State) (src : PromptSource) (tag : Tag) : (s.takeDown src tag).core = s.core := by
  unfold State.takeDown; repeat' split
  all_goals first | (simp; done) | rfl

@[simp] theorem State.endNeed_outer (s : State) (src : PromptSource) : (s.endNeed src).outer = s.outer := by
  unfold State.endNeed; repeat' split
  all_goals first | (simp; done) | rfl

@[simp] theorem State.endNeed_core (s : State) (src : PromptSource) : (s.endNeed src).core = s.core := by
  unfold State.endNeed; repeat' split
  all_goals first | (simp; done) | rfl

@[simp] theorem State.completePrompt_outer (s : State) (src : PromptSource) : (s.completePrompt src).outer = s.outer := by
  unfold State.completePrompt; repeat' split
  all_goals first | (simp; done) | rfl

@[simp] theorem State.completePrompt_core (s : State) (src : PromptSource) : (s.completePrompt src).core = s.core := by
  unfold State.completePrompt; repeat' split
  all_goals first | (simp; done) | rfl

@[simp] theorem State.panelExpired_outer (s : State)  : (s.panelExpired).1.outer = s.outer := by
  unfold State.panelExpired; repeat' split
  all_goals first | (simp; done) | rfl

@[simp] theorem State.panelExpired_core (s : State)  : (s.panelExpired).1.core = s.core := by
  unfold State.panelExpired; repeat' split
  all_goals first | (simp; done) | rfl

@[simp] theorem State.promptsAttention_outer (s : State)  : (s.promptsAttention).outer = s.outer := by
  unfold State.promptsAttention; repeat' split
  all_goals first | (simp; done) | rfl

@[simp] theorem State.promptsAttention_core (s : State)  : (s.promptsAttention).core = s.core := by
  unfold State.promptsAttention; repeat' split
  all_goals first | (simp; done) | rfl

@[simp] theorem State.promptsClose_outer (s : State)  : (s.promptsClose).outer = s.outer := by
  unfold State.promptsClose; repeat' split
  all_goals first | (simp; done) | rfl

@[simp] theorem State.promptsClose_core (s : State)  : (s.promptsClose).core = s.core := by
  unfold State.promptsClose; repeat' split
  all_goals first | (simp; done) | rfl

@[simp] theorem State.promptsLost_outer (s : State)  : (s.promptsLost).outer = s.outer := by
  unfold State.promptsLost; repeat' split
  all_goals first | (simp; done) | rfl

@[simp] theorem State.promptsLost_core (s : State)  : (s.promptsLost).core = s.core := by
  unfold State.promptsLost; repeat' split
  all_goals first | (simp; done) | rfl

@[simp] theorem State.promptsDrop_outer (s : State)  : (s.promptsDrop).outer = s.outer := by
  unfold State.promptsDrop; repeat' split
  all_goals first | (simp; done) | rfl

@[simp] theorem State.promptsDrop_core (s : State)  : (s.promptsDrop).core = s.core := by
  unfold State.promptsDrop; repeat' split
  all_goals first | (simp; done) | rfl

@[simp] theorem State.promptsConflict_outer (s : State)  : (s.promptsConflict).outer = s.outer := by
  unfold State.promptsConflict; repeat' split
  all_goals first | (simp; done) | rfl

@[simp] theorem State.promptsConflict_core (s : State)  : (s.promptsConflict).core = s.core := by
  unfold State.promptsConflict; repeat' split
  all_goals first | (simp; done) | rfl

@[simp] theorem State.nestTo_outer (s : State) (st : NestState) : (s.nestTo st).outer = s.outer := by
  unfold State.nestTo; split
  · rfl
  · dsimp only; repeat' split
    all_goals simp

@[simp] theorem State.setClampTimer_outer (s : State) (t : Option Nat) : (s.setClampTimer t).outer = s.outer := by
  unfold State.setClampTimer; repeat' split
  all_goals first | (simp; done) | rfl

@[simp] theorem State.clampOpened_outer (s : State)  : (s.clampOpened).outer = s.outer := by
  unfold State.clampOpened; dsimp only; split <;> simp

@[simp] theorem State.enterReleasing_outer (s : State)  : (s.enterReleasing).outer = s.outer := by
  unfold State.enterReleasing; dsimp only; split <;> simp

@[simp] theorem State.unitReleases_outer (s : State)  : (s.unitReleases).outer = s.outer := by
  unfold State.unitReleases; repeat' split
  all_goals first | (simp; done) | rfl

@[simp] theorem State.evaluateSuspect_outer (s : State)  : (s.evaluateSuspect).outer = s.outer := by
  unfold State.evaluateSuspect; dsimp only; split <;> simp

@[simp] theorem State.pushHistory_outer (s : State) (e : HistoryEntry) : (s.pushHistory e).outer = s.outer := by
  unfold State.pushHistory; repeat' split
  all_goals first | (simp; done) | rfl

@[simp] theorem State.popHistory_outer (s : State)  : (s.popHistory).outer = s.outer := by
  unfold State.popHistory; repeat' split
  all_goals first | (simp; done) | rfl

@[simp] theorem State.resetHistory_outer (s : State)  : (s.resetHistory).outer = s.outer := by
  unfold State.resetHistory; repeat' split
  all_goals first | (simp; done) | rfl

@[simp] theorem State.modOpen_outer (s : State) (f : UnitRecord → UnitRecord) : (s.modOpen f).outer = s.outer := by
  unfold State.modOpen; repeat' split
  all_goals first | (simp; done) | rfl

@[simp] theorem State.appendResult_outer (s : State) (r : StepResult) : (s.appendResult r).outer = s.outer := by
  unfold State.appendResult; repeat' split
  all_goals first | (simp; done) | rfl

@[simp] theorem State.closeRecord_outer (s : State) (v : Verdict) (code : Option Nat) : (s.closeRecord v code).outer = s.outer := by
  unfold State.closeRecord; repeat' split
  all_goals first | (simp; done) | rfl

@[simp] theorem State.sendNotice_outer (s : State) (verdict : Nat) (code : Option Nat) : (s.sendNotice verdict code).outer = s.outer := by
  unfold State.sendNotice; repeat' split
  all_goals first | (simp; done) | rfl

@[simp] theorem State.sendNotice_core (s : State) (verdict : Nat) (code : Option Nat) : (s.sendNotice verdict code).core = s.core := by
  unfold State.sendNotice; repeat' split
  all_goals first | (simp; done) | rfl

@[simp] theorem State.engineEnding_outer (s : State)  : (s.engineEnding).outer = s.outer := by
  unfold State.engineEnding; repeat' split
  all_goals first | (simp; done) | rfl

@[simp] theorem State.unitEnd_outer (s : State)  : (s.unitEnd).outer = s.outer := by
  unfold State.unitEnd; dsimp only; repeat' split
  all_goals simp

@[simp] theorem State.abortUnit_outer (s : State) (code : Nat) : (s.abortUnit code).outer = s.outer := by
  unfold State.abortUnit; split
  · rfl
  · dsimp only; split <;> simp

@[simp] theorem State.endingExit_outer (s : State)  : (s.endingExit).outer = s.outer := by
  unfold State.endingExit; repeat' split
  all_goals first | (simp; done) | rfl

@[simp] theorem State.armSource_outer (s : State) (r : StepRecord) : (s.armSource r).outer = s.outer := by
  unfold State.armSource; repeat' split
  all_goals first | (simp; done) | rfl

@[simp] theorem State.abandon_outer (s : State)  : (s.abandon).outer = s.outer := by
  unfold State.abandon; repeat' split
  all_goals first | (simp; done) | rfl

@[simp] theorem State.startSettle_outer (s : State) (r : StepRecord) : (s.startSettle r).outer = s.outer := by
  unfold State.startSettle; repeat' split
  all_goals first | (simp; done) | rfl

@[simp] theorem State.gantryGranted_outer (s : State)  : (s.gantryGranted).outer = s.outer := by
  unfold State.gantryGranted; dsimp only; split <;> simp

@[simp] theorem State.grantGantry_outer (s : State)  : (s.grantGantry).outer = s.outer := by
  unfold State.grantGantry; repeat' split
  all_goals first | (simp; done) | rfl

@[simp] theorem State.clearMarks_outer (s : State)  : (s.clearMarks).outer = s.outer := by
  unfold State.clearMarks; dsimp only; split <;> simp

@[simp] theorem State.attemptStart_outer (s : State)  : (s.attemptStart).1.outer = s.outer := by
  unfold State.attemptStart; dsimp only; split <;> simp

@[simp] theorem State.sceneApplied_outer (s : State)  : (s.sceneApplied).1.outer = s.outer := by
  unfold State.sceneApplied; repeat' split
  all_goals first | (simp; done) | rfl

@[simp] theorem State.judgePart_outer (s : State) (r : StepRecord) : (s.judgePart r).1.outer = s.outer := by
  unfold State.judgePart; dsimp only; repeat' split
  all_goals simp

@[simp] theorem State.kindPart_outer (s : State)  : (s.kindPart).1.outer = s.outer := by
  unfold State.kindPart; dsimp only; repeat' split
  all_goals simp

@[simp] theorem State.afterStep_outer (s : State) (r : StepRecord) (o : AttemptOutcome) : (s.afterStep r o).1.outer = s.outer := by
  unfold State.afterStep; repeat' split
  all_goals first | (simp; done) | rfl

@[simp] theorem State.attemptEnd_outer (s : State) (o : AttemptOutcome) (rd : Option Reading) (unsettled : Bool) : (s.attemptEnd o rd unsettled).1.outer = s.outer := by
  unfold State.attemptEnd; dsimp only; repeat' split
  all_goals simp

@[simp] theorem State.phase_outer (s : State) (p : Phase) : (s.phase p).1.outer = s.outer := by
  cases p <;> simp [State.phase]

@[simp] theorem State.drive_outer (n : Nat) (r : State × Option Phase) : (State.drive n r).outer = r.1.outer := by
  induction n generalizing r with
  | zero => rfl
  | succ n ih => obtain ⟨s, p⟩ := r; cases p <;> simp [State.drive, ih]

@[simp] theorem State.run_outer (r : State × Option Phase) : (State.run r).outer = r.1.outer := by simp [State.run]

@[simp] theorem State.report_outer (r : State × Option Phase) : (State.report r).outer = r.1.outer := by
  unfold State.report; split <;> simp

@[simp] theorem State.handReading_outer (s : State) (rd : Reading) : (s.handReading rd).outer = s.outer := by
  unfold State.handReading; dsimp only; repeat' split
  all_goals simp

@[simp] theorem State.settleExpired_outer (s : State)  : (s.settleExpired).outer = s.outer := by
  unfold State.settleExpired; dsimp only; split <;> simp

@[simp] theorem State.lightError_outer (s : State) (code : Nat) : (s.lightError code).outer = s.outer := by
  unfold State.lightError; repeat' split
  all_goals first | (simp; done) | rfl

@[simp] theorem State.judgeAnswer_outer (s : State) (kind value : Nat) : (s.judgeAnswer kind value).outer = s.outer := by
  unfold State.judgeAnswer; repeat' split
  all_goals first | (simp; done) | rfl

@[simp] theorem State.judgeEnds_outer (s : State) (o : AttemptOutcome) : (s.judgeEnds o).outer = s.outer := by
  unfold State.judgeEnds; repeat' split
  all_goals first | (simp; done) | rfl

@[simp] theorem State.beginSteps_outer (s : State)  : (s.beginSteps).outer = s.outer := by
  unfold State.beginSteps; repeat' split
  all_goals first | (simp; done) | rfl

@[simp] theorem State.deliverEvent_outer (s : State) (e : Nat × Bool) : (s.deliverEvent e).outer = s.outer := by
  unfold State.deliverEvent; repeat' split
  all_goals first | (simp; done) | rfl

@[simp] theorem State.offer_outer (before : Engine) (r : State × List (Nat × Bool)) :
    (State.offer before r).outer = r.1.outer := by
  unfold State.offer; repeat' split
  all_goals simp

@[simp] theorem State.enterFault_outer (s : State) (code : Nat) : (s.enterFault code).outer = s.outer := by
  unfold State.enterFault; dsimp only; split <;> simp

@[simp] theorem State.faultCleared_outer (s : State)  : (s.faultCleared).outer = s.outer := by
  unfold State.faultCleared; dsimp only; repeat' split
  all_goals simp

@[simp] theorem State.becomeReady_outer (s : State)  : (s.becomeReady).outer = s.outer := by
  unfold State.becomeReady; repeat' split
  all_goals first | (simp; done) | rfl

@[simp] theorem State.checkPassed_outer (s : State)  : (s.checkPassed).outer = s.outer := by
  unfold State.checkPassed; repeat' split
  all_goals first | (simp; done) | rfl

@[simp] theorem State.startPair_outer (s : State) (k : Nat) (r : ContactPair) : (s.startPair k r).outer = s.outer := by
  unfold State.startPair; repeat' split
  all_goals first | (simp; done) | rfl

@[simp] theorem State.nextPair_outer (s : State) (k : Nat) : (s.nextPair k).outer = s.outer := by
  unfold State.nextPair; repeat' split
  all_goals first | (simp; done) | rfl

@[simp] theorem State.clampClosed_outer (s : State)  : (s.clampClosed).outer = s.outer := by
  unfold State.clampClosed; repeat' (first | split | dsimp only)
  all_goals simp

@[simp] theorem State.enterClamping_outer (s : State)  : (s.enterClamping).outer = s.outer := by
  unfold State.enterClamping; repeat' (first | split | dsimp only)
  all_goals simp

@[simp] theorem State.reseatOpened_outer (s : State)  : (s.reseatOpened).outer = s.outer := by
  unfold State.reseatOpened; repeat' split
  all_goals first | (simp; done) | rfl

@[simp] theorem State.startReseat_outer (s : State)  : (s.startReseat).outer = s.outer := by
  unfold State.startReseat; repeat' (first | split | dsimp only)
  all_goals simp

@[simp] theorem State.contactReading_outer (s : State) (rd : Reading) : (s.contactReading rd).outer = s.outer := by
  unfold State.contactReading; repeat' (first | split | dsimp only)
  all_goals simp

@[simp] theorem State.contactWaited_outer (s : State)  : (s.contactWaited).outer = s.outer := by
  unfold State.contactWaited; repeat' split
  all_goals first | (simp; done) | rfl

@[simp] theorem State.holdNest_outer (s : State) (guard halt : Bool) : (s.holdNest guard halt).outer = s.outer := by
  unfold State.holdNest; repeat' split
  all_goals first | (simp; done) | rfl

@[simp] theorem State.leaveHeld_outer (s : State)  : (s.leaveHeld).outer = s.outer := by
  unfold State.leaveHeld; repeat' split
  all_goals first | (simp; done) | rfl

@[simp] theorem State.guardChanged_outer (s : State)  : (s.guardChanged).outer = s.outer := by
  unfold State.guardChanged; repeat' (first | split | dsimp only)
  all_goals simp

@[simp] theorem State.partChanged_outer (s : State)  : (s.partChanged).outer = s.outer := by
  unfold State.partChanged; repeat' (first | split | dsimp only)
  all_goals simp

@[simp] theorem State.clampChanged_outer (s : State) (opened : Bool) : (s.clampChanged opened).outer = s.outer := by
  unfold State.clampChanged; repeat' (first | split | dsimp only)
  all_goals simp

@[simp] theorem State.clampTimedOut_outer (s : State)  : (s.clampTimedOut).outer = s.outer := by
  unfold State.clampTimedOut; repeat' split
  all_goals first | (simp; done) | rfl

@[simp] theorem State.deriveNest_outer (s : State)  : (s.deriveNest).outer = s.outer := by
  unfold State.deriveNest; repeat' (first | split | dsimp only)
  all_goals simp

@[simp] theorem State.nestHalt_outer (s : State)  : (s.nestHalt).outer = s.outer := by
  unfold State.nestHalt; repeat' split
  all_goals first | (simp; done) | rfl

@[simp] theorem State.nestResume_outer (s : State)  : (s.nestResume).outer = s.outer := by
  unfold State.nestResume; repeat' split
  all_goals first | (simp; done) | rfl

@[simp] theorem State.requeuePrompt_outer (s : State)  : (s.requeuePrompt).outer = s.outer := by
  unfold State.requeuePrompt; repeat' (first | split | dsimp only)
  all_goals simp

@[simp] theorem State.nestActs_outer (s : State) (x : Sensor) : (s.nestActs x).outer = s.outer := by
  unfold State.nestActs; repeat' (first | split | dsimp only)
  all_goals simp

@[simp] theorem State.formBackground_outer (s : State)  : (s.formBackground).outer = s.outer := by
  unfold State.formBackground; repeat' split
  all_goals first | (simp; done) | rfl

@[simp] theorem State.flagInstant_outer (s : State) (c : Nat) : (s.flagInstant c).outer = s.outer := by
  unfold State.flagInstant; dsimp only; split <;> simp

@[simp] theorem State.overdrawCheck_outer (s : State)  : (s.overdrawCheck).outer = s.outer := by
  unfold State.overdrawCheck; repeat' split
  all_goals first | (simp; done) | rfl

@[simp] theorem State.levelInstant_outer (s : State)  : (s.levelInstant).outer = s.outer := by
  unfold State.levelInstant; repeat' split
  all_goals first | (simp; done) | rfl

@[simp] theorem State.contactInstant_outer (s : State)  : (s.contactInstant).outer = s.outer := by
  unfold State.contactInstant; repeat' split
  all_goals first | (simp; done) | rfl

@[simp] theorem State.readingInstant_outer (s : State)  : (s.readingInstant).outer = s.outer := by
  unfold State.readingInstant; dsimp only
  simp

@[simp] theorem State.completeAcquisition_outer (s : State) (a : Acquisition) (rd : Reading) : (s.completeAcquisition a rd).outer = s.outer := by
  unfold State.completeAcquisition; repeat' split
  all_goals first | (simp; done) | rfl

@[simp] theorem State.timingEdge_outer (s : State) (i : Nat) : (s.timingEdge i).outer = s.outer := by
  unfold State.timingEdge; repeat' (first | split | dsimp only)
  all_goals simp

@[simp] theorem State.timingInput_outer (s : State) (i : Nat) (b : Bool) : (s.timingInput i b).outer = s.outer := by
  unfold State.timingInput; repeat' (first | split | dsimp only)
  all_goals simp

@[simp] theorem State.logicTaken_outer (s : State) (i : Nat) : (s.logicTaken i).outer = s.outer := by
  unfold State.logicTaken; repeat' (first | split | dsimp only)
  all_goals simp

@[simp] theorem State.logicInput_outer (s : State) (i : Nat) (b : Bool) : (s.logicInput i b).outer = s.outer := by
  unfold State.logicInput; repeat' (first | split | dsimp only)
  all_goals simp

@[simp] theorem State.levelEnds_outer (s : State)  : (s.levelEnds).outer = s.outer := by
  unfold State.levelEnds; repeat' (first | split | dsimp only)
  all_goals simp

@[simp] theorem State.grantBudget_outer (s : State)  : (s.grantBudget).outer = s.outer := by
  unfold State.grantBudget; repeat' (first | split | dsimp only)
  all_goals first | (simp; done) | rfl

@[simp] theorem State.surplusReturned_outer (s : State)  : (s.surplusReturned).outer = s.outer := by
  unfold State.surplusReturned; repeat' split
  all_goals first | (simp; done) | rfl

@[simp] theorem State.gantryLost_outer (s : State)  : (s.gantryLost).outer = s.outer := by
  unfold State.gantryLost; dsimp only; split <;> simp

@[simp] theorem State.budgetLost_outer (s : State)  : (s.budgetLost).outer = s.outer := by
  unfold State.budgetLost; repeat' split
  all_goals first | (simp; done) | rfl

@[simp] theorem State.examination_outer (s : State)  : (s.examination).outer = s.outer := by
  unfold State.examination; dsimp only; split <;> simp

@[simp] theorem State.waitExpired_outer (s : State) (r : Resource) : (s.waitExpired r).outer = s.outer := by
  cases r <;> simp only [State.waitExpired] <;> repeat' split
  all_goals simp

/-! ## The edges of the present tick (R87) -/

/-- A kept edge counts at its own tick when it qualifies, beside those kept for that tick before, and at no other. -/
theorem TickEdges.push_at (e : TickEdges) (now edge n : Nat) (rising : Bool) :
    (e.push now edge rising).at n =
      if now = n then e.at now + (if qualifying edge rising then 1 else 0) else 0 := rfl

/-! ## The budget recorded at the opening of a window (R59) -/

/-- A fall of W lowers the record and not what was recorded at the opening. -/
@[simp] theorem State.lowerRecords_opened (s : State) :
    s.lowerRecords.claims.budget.opened = s.claims.budget.opened := rfl

@[simp] theorem Claims.clearRecords_opened (c : Claims) : c.clearRecords.budget.opened = c.budget.opened := rfl

@[simp] theorem Claims.forgetOpening_opened (c : Claims) : c.forgetOpening.budget.opened = 0 := rfl

@[simp] theorem Claims.stopRetries_opened (c : Claims) : c.stopRetries.budget.opened = c.budget.opened := rfl

/-- An ATTENTION that finds the window CLOSED records the smaller of W and the budget held; one that finds it OPEN
keeps what the first recorded. -/
theorem Claims.recordHoldings_opened (c : Claims) (before : View) (address : Nat) :
    (c.recordHoldings before address).budget.opened =
      if before.window.isSome then c.budget.opened else min c.budget.want (before.heldBy address) := by
  unfold Claims.recordHoldings; split <;> rfl

end Sys2Proof.Machine
end

