-- ==== Sys2Proof/Laws/Finish.lean ====
section
/-! SUPPORT. What the reactions that close an event (`State.finish`) leave alone: the time, the pins, the
own address, the Command Handler, the Rack View, the Plan Store and the waiting commands always; every
block but the Claim Unit, the Prompt Queue, the frame port and the transmit queue when the station is
settled; and everything when nothing is due. -/

namespace Sys2Proof.Machine

/-- What `finish` never changes. -/
structure Kept (s t : State) : Prop where
  now     : t.now = s.now
  pins    : t.pins = s.pins
  address : t.rbi.address = s.rbi.address
  handler : t.handler = s.handler
  view    : t.view = s.view
  plan    : t.plan = s.plan
  pending : t.pending = s.pending
  joinState : t.join.state = s.join.state
  qualifier : t.join.qualifier = s.join.qualifier
  detail  : t.join.detail = s.join.detail
  params  : t.join.params = s.join.params
  announce : t.join.announce = s.join.announce
  clock   : t.join.clockStart = s.join.clockStart
  checking : t.join.checking = s.join.checking
  rebuild : t.join.rebuildTimer = s.join.rebuildTimer

theorem Kept.refl (s : State) : Kept s s := ⟨rfl, rfl, rfl, rfl, rfl, rfl, rfl, rfl, rfl, rfl, rfl, rfl, rfl, rfl, rfl⟩

theorem Kept.trans {s t u : State} (a : Kept s t) (b : Kept t u) : Kept s u := by
  cases a; cases b; constructor <;> simp_all

theorem Kept.ofOuter {s t : State} (h : t.outer = s.outer) : Kept s t := by
  simp only [State.outer, Outer.mk.injEq] at h
  obtain ⟨h1, h2, h3, h4, h5, h6, h7, h8, h9, h10, h11⟩ := h
  constructor <;> simp_all

theorem State.sendOwed_kept (s : State) : Kept s s.sendOwed := by
  unfold State.sendOwed
  have h : ∀ u : State, Kept s u → Kept s (match u.view.window with
      | some o =>
        if u.join.rebuildEndDue && txRoom u.rbi.queue .joinView then
          (u.send (.rebuildEnd o)).modJoin (fun j => { j with rebuildEndDue := false })
        else u
      | none => u.modJoin (fun j => { j with rebuildEndDue := false })) := by
    intro u hu
    refine hu.trans ?_
    split
    · split
      · exact (Kept.ofOuter (State.send_outer u _)).trans ⟨rfl, rfl, rfl, rfl, rfl, rfl, rfl, rfl, rfl, rfl, rfl, rfl, rfl, rfl, rfl⟩
      · exact .refl _
    · exact ⟨rfl, rfl, rfl, rfl, rfl, rfl, rfl, rfl, rfl, rfl, rfl, rfl, rfl, rfl, rfl⟩
  refine h _ ?_
  split
  · exact (Kept.ofOuter (State.send_outer s _)).trans ⟨rfl, rfl, rfl, rfl, rfl, rfl, rfl, rfl, rfl, rfl, rfl, rfl, rfl, rfl, rfl⟩
  · exact .refl _

@[simp] theorem State.sendOwed_core (s : State) : s.sendOwed.core = s.core := by
  unfold State.sendOwed; dsimp only
  repeat' split
  all_goals simp

theorem State.startBus_kept (s : State) : Kept s s.startBus := by
  unfold State.startBus
  split <;> exact ⟨rfl, rfl, rfl, rfl, rfl, rfl, rfl, rfl, rfl, rfl, rfl, rfl, rfl, rfl, rfl⟩

@[simp] theorem State.startBus_core (s : State) : s.startBus.core = s.core := by
  unfold State.startBus; split <;> rfl

/-- What closes an event changes none of the fields of `Kept`. -/
theorem State.finish_kept (b : Bool) (s : State) : Kept s (s.finish b) := by
  unfold State.finish; dsimp only
  refine Kept.trans ?_ (State.startBus_kept _)
  refine Kept.trans ?_ (Kept.ofOuter (State.arbiter_outer _))
  refine Kept.trans ?_ (State.sendOwed_kept _)
  apply Kept.ofOuter
  cases b <;> simp

@[simp] theorem State.finish_now (b : Bool) (s : State) : (s.finish b).now = s.now := (s.finish_kept b).now
@[simp] theorem State.finish_pins (b : Bool) (s : State) : (s.finish b).pins = s.pins := (s.finish_kept b).pins
@[simp] theorem State.finish_handler (b : Bool) (s : State) : (s.finish b).handler = s.handler := (s.finish_kept b).handler
@[simp] theorem State.finish_view (b : Bool) (s : State) : (s.finish b).view = s.view := (s.finish_kept b).view
@[simp] theorem State.finish_plan (b : Bool) (s : State) : (s.finish b).plan = s.plan := (s.finish_kept b).plan
@[simp] theorem State.finish_pending (b : Bool) (s : State) : (s.finish b).pending = s.pending := (s.finish_kept b).pending

theorem State.arbiter_core (s : State) :
    s.arbiter.nest = s.nest ∧ s.arbiter.stim = s.stim ∧ s.arbiter.capture = s.capture ∧ s.arbiter.sense = s.sense ∧
    s.arbiter.engine = s.engine ∧ s.arbiter.store = s.store ∧ s.arbiter.history = s.history := by
  unfold State.arbiter State.handOff
  split <;> simp

theorem State.grantGantry_core {s : State} (h : s.engine.state ≠ .awaitResource) : s.grantGantry.core = s.core := by
  unfold State.grantGantry; simp only [h, if_false]
  split <;> rfl

theorem State.endingExit_core {s : State} (h : s.engine.state ≠ .ending) : s.endingExit.core = s.core := by
  unfold State.endingExit; simp [h]

theorem core_engine {s t : State} (h : t.core = s.core) : t.engine = s.engine := by
  simp only [State.core, Core.mk.injEq] at h; exact h.2.2.2.2.2.1

theorem core_stim {s t : State} (h : t.core = s.core) : t.stim = s.stim := by
  simp only [State.core, Core.mk.injEq] at h; exact h.2.1

/-- At a settled station the reactions before the arbiter leave the core alone. -/
theorem State.beforeArbiter_core (b : Bool) {s : State} (h : s.Settled) :
    ((((if b then s.grantBudget.surplusReturned else s.grantBudget).grantGantry.grantPanel.endingExit.claimCheck).startPanel.claimCheck).sendOwed).core
      = s.core := by
  obtain ⟨h1, h2, h3, h4⟩ := h
  have e1 : s.grantBudget = s := by simp [State.grantBudget, h1]
  have e2 : s.surplusReturned = s := by simp [State.surplusReturned, h2]
  simp only [e1, e2, ite_self]
  have g := State.grantGantry_core h3
  have p : s.grantGantry.grantPanel.core = s.core := by simp [g]
  have q : s.grantGantry.grantPanel.endingExit.core = s.core := by
    rw [State.endingExit_core (by rw [core_engine p]; exact h4), p]
  simp [q]

/-- At a settled station what closes an event leaves the nest, the Stimulus Unit, the Capture Table, the
Sense Unit, the Step Engine and the stores alone, and changes the Network Schedule Unit by a hand-off at
the most. -/
theorem State.finish_settled (b : Bool) {s : State} (h : s.Settled) :
    (s.finish b).nest = s.nest ∧ (s.finish b).stim = s.stim ∧ (s.finish b).capture = s.capture ∧
    (s.finish b).sense = s.sense ∧ (s.finish b).engine = s.engine ∧ (s.finish b).store = s.store ∧
    (s.finish b).history = s.history := by
  have c := State.beforeArbiter_core b h
  unfold State.finish; dsimp only
  generalize (((if b then s.grantBudget.surplusReturned else s.grantBudget).grantGantry.grantPanel.endingExit.claimCheck).startPanel.claimCheck).sendOwed = u at c ⊢
  have k := State.startBus_core u.arbiter
  have a := u.arbiter_core
  simp only [State.core, Core.mk.injEq] at c k
  obtain ⟨c1, c2, c3, c4, c5, c6, c7, c8⟩ := c
  obtain ⟨k1, k2, k3, k4, k5, k6, k7, k8⟩ := k
  obtain ⟨a1, a2, a4, a5, a6, a7, a8⟩ := a
  simp [*]

end Sys2Proof.Machine
end

