-- ==== Sys2Proof/Laws/Rack.lean ====
section
/-! SUPPORT. What the Command Handler and the frames of the rack leave alone: the time, the pins, the own
address and the waiting commands (`Outer.fixed`), and, but for plan commands and warm resets, the plan. -/

namespace Sys2Proof.Machine

/-- The time, the pins, the own address and the waiting commands. -/
structure Fixed where
  now     : Nat
  pins    : Pins
  address : Nat
  pending : List Instr

/-- The part of `Outer` that only COLD_RESET, and the operands of time and pins, change. -/
def Outer.fixed (o : Outer) : Fixed := ⟨o.now, o.pins, o.address, o.pending⟩

theorem State.outer_view (s : State) : s.outer.view = s.view := rfl
theorem State.outer_plan (s : State) : s.outer.plan = s.plan := rfl
theorem State.outer_now (s : State) : s.outer.now = s.now := rfl
theorem State.outer_join (s : State) : s.outer.join = s.join := rfl
theorem State.outer_handler (s : State) : s.outer.handler = s.handler := rfl

@[simp] theorem State.modView_fixed (s : State) (f : View → View) : (s.modView f).outer.fixed = s.outer.fixed := rfl
@[simp] theorem State.modPlan_fixed (s : State) (f : Plan → Plan) : (s.modPlan f).outer.fixed = s.outer.fixed := rfl
@[simp] theorem State.modHandler_fixed (s : State) (f : Handler → Handler) : (s.modHandler f).outer.fixed = s.outer.fixed := rfl
@[simp] theorem State.modJoin_fixed (s : State) (f : Join → Join) : (s.modJoin f).outer.fixed = s.outer.fixed := rfl

@[simp] theorem State.finish_fixed (b : Bool) (s : State) : (s.finish b).outer.fixed = s.outer.fixed := by
  have k := s.finish_kept b
  simp only [State.outer, Outer.fixed, k.now, k.pins, k.address, k.pending]

@[simp] theorem State.endFrame_fixed (s : State)  : (s.endFrame).outer.fixed = s.outer.fixed := by
  unfold State.endFrame; repeat' (first | split | dsimp only)
  all_goals first | (simp; done) | rfl

@[simp] theorem State.loseArbitration_fixed (s : State)  : (s.loseArbitration).outer.fixed = s.outer.fixed := by
  unfold State.loseArbitration; repeat' (first | split | dsimp only)
  all_goals first | (simp; done) | rfl

@[simp] theorem State.sendOwed_fixed (s : State)  : (s.sendOwed).outer.fixed = s.outer.fixed := by
  have k := s.sendOwed_kept
  simp only [State.outer, Outer.fixed, k.now, k.pins, k.address, k.pending]

@[simp] theorem State.acceptFixture_fixed (s : State) (fixture : Nat) : (s.acceptFixture fixture).outer.fixed = s.outer.fixed := by
  unfold State.acceptFixture; repeat' (first | split | dsimp only)
  all_goals first | (simp; done) | rfl

@[simp] theorem State.openUnit_fixed (s : State) (serial : List Byte) (planId fixture : Nat) : (s.openUnit serial planId fixture).outer.fixed = s.outer.fixed := by
  unfold State.openUnit; repeat' (first | split | dsimp only)
  all_goals first | (simp; done) | rfl

@[simp] theorem State.sealOutcome_fixed (s : State) (j : SealJob) : (s.sealOutcome j).1.outer.fixed = s.outer.fixed := by
  unfold State.sealOutcome; repeat' (first | split | dsimp only)
  all_goals first | (simp; done) | rfl

@[simp] theorem State.takePlanBegin_fixed (s : State) (c : Command) : (s.takePlanBegin c).1.outer.fixed = s.outer.fixed := by
  unfold State.takePlanBegin; repeat' (first | split | dsimp only)
  all_goals first | (simp; done) | rfl

@[simp] theorem State.takePlanRecord_fixed (s : State) (c : Command) : (s.takePlanRecord c).1.outer.fixed = s.outer.fixed := by
  unfold State.takePlanRecord; repeat' (first | split | dsimp only)
  all_goals first | (simp; done) | rfl

@[simp] theorem State.takePlanSeal_fixed (s : State) (c : Command) : (s.takePlanSeal c).1.outer.fixed = s.outer.fixed := by
  unfold State.takePlanSeal; repeat' (first | split | dsimp only)
  all_goals first | (simp; done) | rfl

@[simp] theorem State.takeUnitStart_fixed (s : State) (c : Command) : (s.takeUnitStart c).1.outer.fixed = s.outer.fixed := by
  unfold State.takeUnitStart; repeat' (first | split | dsimp only)
  all_goals first | (simp; done) | rfl

@[simp] theorem State.takeUnitAbort_fixed (s : State) (c : Command) : (s.takeUnitAbort c).1.outer.fixed = s.outer.fixed := by
  unfold State.takeUnitAbort; repeat' (first | split | dsimp only)
  all_goals first | (simp; done) | rfl

@[simp] theorem State.takeVerdictQuery_fixed (s : State) (c : Command) : (s.takeVerdictQuery c).1.outer.fixed = s.outer.fixed := by
  unfold State.takeVerdictQuery; repeat' (first | split | dsimp only)
  all_goals first | (simp; done) | rfl

@[simp] theorem State.takeVerdictRelease_fixed (s : State) (c : Command) : (s.takeVerdictRelease c).1.outer.fixed = s.outer.fixed := by
  unfold State.takeVerdictRelease; repeat' (first | split | dsimp only)
  all_goals first | (simp; done) | rfl

@[simp] theorem State.takeVoidUnit_fixed (s : State) (c : Command) : (s.takeVoidUnit c).1.outer.fixed = s.outer.fixed := by
  unfold State.takeVoidUnit; repeat' (first | split | dsimp only)
  all_goals first | (simp; done) | rfl

@[simp] theorem State.takeClearFault_fixed (s : State) (c : Command) : (s.takeClearFault c).1.outer.fixed = s.outer.fixed := by
  unfold State.takeClearFault; repeat' (first | split | dsimp only)
  all_goals first | (simp; done) | rfl

@[simp] theorem State.takeClearSuspect_fixed (s : State) (c : Command) : (s.takeClearSuspect c).1.outer.fixed = s.outer.fixed := by
  unfold State.takeClearSuspect; repeat' (first | split | dsimp only)
  all_goals first | (simp; done) | rfl

@[simp] theorem State.takeStatusQuery_fixed (s : State) (c : Command) : (s.takeStatusQuery c).1.outer.fixed = s.outer.fixed := by
  unfold State.takeStatusQuery; repeat' (first | split | dsimp only)
  all_goals first | (simp; done) | rfl

@[simp] theorem State.takeStationReset_fixed (s : State) (c : Command) : (s.takeStationReset c).1.outer.fixed = s.outer.fixed := by
  unfold State.takeStationReset; repeat' (first | split | dsimp only)
  all_goals first | (simp; done) | rfl

@[simp] theorem State.handToOwner_fixed (s : State) (c : Command) : (s.handToOwner c).1.outer.fixed = s.outer.fixed := by
  unfold State.handToOwner; repeat' (first | split | dsimp only)
  all_goals first | (simp; done) | rfl

@[simp] theorem State.takeCommand_fixed (s : State) (c : Command) : (s.takeCommand c).1.outer.fixed = s.outer.fixed := by
  unfold State.takeCommand; repeat' (first | split | dsimp only)
  all_goals first | (simp; done) | rfl

@[simp] theorem State.placeReply_fixed (s : State) (b : TxBody) (sent held : HandlerState) : (s.placeReply b sent held).outer.fixed = s.outer.fixed := by
  unfold State.placeReply; repeat' (first | split | dsimp only)
  all_goals first | (simp; done) | rfl

@[simp] theorem State.concludeTaking_fixed (r : State × Taken) : (State.concludeTaking r).outer.fixed = r.1.outer.fixed := by
  unfold State.concludeTaking; split <;> simp

@[simp] theorem State.takeCommands_fixed (n : Nat) (s : State) : (State.takeCommands n s).outer.fixed = s.outer.fixed := by
  induction n generalizing s with
  | zero => rfl
  | succ n ih => unfold State.takeCommands; split <;> simp [ih]

@[simp] theorem State.handlerTakes_fixed (s : State)  : (s.handlerTakes).outer.fixed = s.outer.fixed := by
  unfold State.handlerTakes; repeat' (first | split | dsimp only)
  all_goals first | (simp; done) | rfl

@[simp] theorem State.queueCommand_fixed (s : State) (c : Command) : (s.queueCommand c).outer.fixed = s.outer.fixed := by
  unfold State.queueCommand; repeat' (first | split | dsimp only)
  all_goals first | (simp; done) | rfl

@[simp] theorem State.handlerReport_fixed (s : State)  : (s.handlerReport).outer.fixed = s.outer.fixed := by
  unfold State.handlerReport; repeat' (first | split | dsimp only)
  all_goals first | (simp; done) | rfl

@[simp] theorem State.sealEnds_fixed (s : State)  : (s.sealEnds).outer.fixed = s.outer.fixed := by
  unfold State.sealEnds; repeat' (first | split | dsimp only)
  all_goals first | (simp; done) | rfl

@[simp] theorem State.emptyQueues_fixed (s : State)  : (s.emptyQueues).outer.fixed = s.outer.fixed := rfl

@[simp] theorem State.enterConflict_fixed (s : State)  : (s.enterConflict).outer.fixed = s.outer.fixed := by
  have h : ∀ u : State, ((u.modRbi (fun r => { r with bus := .silent, rejectDriven := false }))).outer.fixed = u.outer.fixed :=
    fun _ => rfl
  unfold State.enterConflict; dsimp only; simp [h]

@[simp] theorem State.warmReset_fixed (s : State)  : (s.warmReset).outer.fixed = s.outer.fixed := by
  unfold State.warmReset; repeat' (first | split | dsimp only)
  all_goals first | (simp; done) | rfl

@[simp] theorem State.selfCheckEnds_fixed (s : State) (o : Vector (BitVec 12) 16) : (s.selfCheckEnds o).outer.fixed = s.outer.fixed := by
  unfold State.selfCheckEnds; repeat' (first | split | dsimp only)
  all_goals first | (simp; done) | rfl

@[simp] theorem State.sendAttention_fixed (s : State)  : (s.sendAttention).outer.fixed = s.outer.fixed := by
  unfold State.sendAttention; repeat' (first | split | dsimp only)
  all_goals first | (simp; done) | rfl

@[simp] theorem State.startLateClamp_fixed (s : State)  : (s.startLateClamp).outer.fixed = s.outer.fixed := by
  unfold State.startLateClamp; repeat' (first | split | dsimp only)
  all_goals first | (simp; done) | rfl

@[simp] theorem State.acceptParameters_fixed (s : State) (p : List Byte) : (s.acceptParameters p).outer.fixed = s.outer.fixed := by
  unfold State.acceptParameters; repeat' (first | split | dsimp only)
  all_goals first | (simp; done) | rfl

@[simp] theorem State.onAttention_fixed (s : State) (src : Nat) : (s.onAttention src).outer.fixed = s.outer.fixed := by
  unfold State.onAttention; repeat' (first | split | dsimp only)
  all_goals first | (simp; done) | rfl

@[simp] theorem State.completeJoin_fixed (s : State)  : (s.completeJoin).outer.fixed = s.outer.fixed := by
  unfold State.completeJoin; repeat' (first | split | dsimp only)
  all_goals first | (simp; done) | rfl

@[simp] theorem State.onClose_fixed (s : State)  : (s.onClose).outer.fixed = s.outer.fixed := by
  unfold State.onClose; repeat' (first | split | dsimp only)
  all_goals first | (simp; done) | rfl

@[simp] theorem State.onRebuildEnd_fixed (s : State) (opener : Nat) : (s.onRebuildEnd opener).outer.fixed = s.outer.fixed := by
  unfold State.onRebuildEnd; repeat' (first | split | dsimp only)
  all_goals first | (simp; done) | rfl

@[simp] theorem State.onForceRelease_fixed (s : State) (st : Nat) : (s.onForceRelease st).outer.fixed = s.outer.fixed := by
  unfold State.onForceRelease; repeat' (first | split | dsimp only)
  all_goals first | (simp; done) | rfl

@[simp] theorem State.onHalt_fixed (s : State)  : (s.onHalt).outer.fixed = s.outer.fixed := by
  have h : ∀ u : State, (u.modRbi (fun r => { r with queue := purgeClass2 r.queue })).outer.fixed = u.outer.fixed :=
    fun _ => rfl
  unfold State.onHalt; dsimp only; split <;> simp [h]

@[simp] theorem State.onResume_fixed (s : State)  : (s.onResume).outer.fixed = s.outer.fixed := by
  unfold State.onResume; repeat' (first | split | dsimp only)
  all_goals first | (simp; done) | rfl

@[simp] theorem State.viewFrame_fixed (s : State) (f : Frame) : (s.viewFrame f).outer.fixed = s.outer.fixed := by
  unfold State.viewFrame; repeat' (first | split | dsimp only)
  all_goals first | (simp; done) | rfl

@[simp] theorem State.onPromptAnswer_fixed (s : State) (p : List Byte) : (s.onPromptAnswer p).outer.fixed = s.outer.fixed := by
  unfold State.onPromptAnswer; repeat' (first | split | dsimp only)
  all_goals first | (simp; done) | rfl

@[simp] theorem State.onMeasureResult_fixed (s : State) (p : List Byte) : (s.onMeasureResult p).outer.fixed = s.outer.fixed := by
  unfold State.onMeasureResult; repeat' (first | split | dsimp only)
  all_goals first | (simp; done) | rfl

@[simp] theorem State.route_fixed (s : State) (f : Frame) : (s.route f).outer.fixed = s.outer.fixed := by
  unfold State.route; repeat' (first | split | dsimp only)
  all_goals first | (simp; done) | rfl

@[simp] theorem State.reportReply_fixed (s : State) (b : TxBody) : (s.reportReply b).outer.fixed = s.outer.fixed := by
  unfold State.reportReply; repeat' (first | split | dsimp only)
  all_goals first | (simp; done) | rfl

@[simp] theorem State.offerRebuildEnd_fixed (s : State)  : (s.offerRebuildEnd).outer.fixed = s.outer.fixed := by
  unfold State.offerRebuildEnd; repeat' (first | split | dsimp only)
  all_goals first | (simp; done) | rfl

@[simp] theorem State.reportDelivered_fixed (s : State) (b : TxBody) : (s.reportDelivered b).outer.fixed = s.outer.fixed := by
  unfold State.reportDelivered; repeat' (first | split | dsimp only)
  all_goals first | (simp; done) | rfl

@[simp] theorem State.reportRejected_fixed (s : State) (b : TxBody) : (s.reportRejected b).outer.fixed = s.outer.fixed := by
  unfold State.reportRejected; repeat' (first | split | dsimp only)
  all_goals first | (simp; done) | rfl

@[simp] theorem State.dropSent_fixed (s : State)  : (s.dropSent).outer.fixed = s.outer.fixed := rfl

@[simp] theorem State.receive_fixed (s : State) (f : Frame) : (s.receive f).outer.fixed = s.outer.fixed := by
  have h : ∀ u : State, (u.modRbi (fun r => { r with rejectDriven := true })).outer.fixed = u.outer.fixed := fun _ => rfl
  unfold State.receive; repeat' split
  all_goals simp [h]

end Sys2Proof.Machine
end

