-- ==== Sys2Proof/WellFormed.lean ====
section
/-! DEFINITION. Which commands are well formed: the bounds of a frame that the widths of the
operands' types do not already say (R192). A command that is not well formed stands for no event of
the line; `exec` is total on it all the same. -/

namespace Sys2Proof

/-- A payload is 0..24 bytes long (R192). -/
def payloadOk (p : List Byte) : Bool := p.length ≤ 24

/-- A frame of one fixed kind is well formed when its payload is (R192). -/
def Delivery.wellFormed (d : Delivery) : Bool := payloadOk d.payload

/-- A frame is well formed when its payload is (R192). -/
def Frame.wellFormed (f : Frame) : Bool := payloadOk f.payload

/-- The twelve command kinds, 32..43 (R192, 7.6). -/
def isCommandKind (k : BitVec 6) : Bool := 32 ≤ k.toNat && k.toNat ≤ 43

/-- The four kinds of reply, 48..51 (R192). -/
def isReplyKind (k : BitVec 6) : Bool := 48 ≤ k.toNat && k.toNat ≤ 51

/-- Well-formedness of a command: frames carry at most 24 bytes (R192), a frame of the vehicle
network at most 8 (R66), the bits of a frame through its check number at most 24 + 8 × 24 + 16
(R192), and the rows for a command and for a reply carry a frame of such a kind. -/
def Instr.wellFormed : Instr → Bool
  | .receiveHandoff _ _ p => decide (p.length ≤ 8)
  | .frameRejected _ line => decide (line.length ≤ 232)
  | .unroutedFrameDelivery _ f => f.wellFormed
  | .commandDelivered _ f => f.wellFormed && isCommandKind f.kind
  | .replyDelivered _ f => f.wellFormed && isReplyKind f.kind
  | .claim _ d | .release _ d | .holding _ d | .attention _ d | .rebuildEnd _ d
  | .forceRelease _ d | .verdictNotice _ d | .rackHalt _ d | .lineResume _ d
  | .rackParameters _ d | .addressTaken _ d | .promptAnswer _ d | .promptPost _ d
  | .promptWithdraw _ d | .measureRequest _ d | .measureResult _ d
  | .planBegin _ d | .planRecord _ d | .planSeal _ d | .unitStart _ _ d | .unitAbort _ d
  | .verdictQuery _ d | .verdictRelease _ d | .voidUnit _ d | .clearFault _ d
  | .clearSuspect _ d | .statusQuery _ d | .stationReset _ d => d.wellFormed
  | .coldReset _ | .selfCheckEnd _ | .nestSensorInput _ _ _ | .partPresentChange _
  | .clampClosedChange _ | .clampOpenChange _ | .guardChange _ | .clampTimeout _
  | .contactWaitExpiry _ | .readingInstant _ | .levelSamplesComplete _
  | .timingInputChange _ _ _ | .timingEdge _ _ | .logicInputChange _ _ _ | .logicLevelTaken _ _
  | .gateTimeout _ | .countIntervalEnd _ | .qualifyTimerExpiry _ _
  | .netScheduleExamination _ | .sentCompletion _ | .netfieldWaitExpiry _ | .rampUpdate _ _
  | .oneShotExpiry _ _ | .periodStart _ _ | .dwellExpiry _ | .settleTimeout _
  | .promptTimeout _ | .resourceWaitExpiry _ _ | .retryTimerExpiry _ _
  | .gantryResultTimeout _ | .rebuildTimerExpiry _ | .announceTimerExpiry _ | .busIdle _
  | .arbitrationLost _ | .bitClash _ | .sealValidationEnd _ | .analogueSample _ _ _ _ _
  | .highTimeEnd _ _ => true

end Sys2Proof
end

