-- ==== Sys2Proof/Tests/Slice0.lean ====
section
/-! SUPPORT. The station's own tests: an ill-formed command for each check of WellFormed, worked cases of the
spec, and for each statement with hypotheses a state and operands that meet them. -/

namespace Sys2Proof.Tests

open Sys2Proof.Machine Sys2Proof.Stated

set_option Elab.async false

/-! ## Well-formedness: each check refuses an ill-formed command -/

/-- `n` bytes of zeros. -/
def zeros (n : Nat) : List Byte := List.replicate n 0

/-- A delivery of class 0. -/
def sent (src dst : Nat) (payload : List Byte) : Delivery := ⟨0, BitVec.ofNat 5 src, BitVec.ofNat 5 dst, payload⟩

/-- A frame of class 0. -/
def frame (src kind dst : Nat) (payload : List Byte) : Frame := deliveryFrame kind (sent src dst payload)

theorem test_wf_delivery : (Instr.claim 0 (sent 3 0 (zeros 25))).wellFormed = false ∧
    (Instr.claim 0 (sent 3 0 (zeros 24))).wellFormed = true := by decide +kernel

theorem test_wf_command : (Instr.unitStart 0 9 (sent 30 1 (zeros 25))).wellFormed = false := by decide +kernel

theorem test_wf_unrouted : (Instr.unroutedFrameDelivery 0 (frame 3 60 0 (zeros 25))).wellFormed = false ∧
    (Instr.unroutedFrameDelivery 0 (frame 3 60 0 (zeros 24))).wellFormed = true := by decide +kernel

theorem test_wf_commandKind : (Instr.commandDelivered ⟨0, 9⟩ (frame 30 31 1 [])).wellFormed = false ∧
    (Instr.commandDelivered ⟨0, 9⟩ (frame 30 32 1 [])).wellFormed = true ∧
    (Instr.commandDelivered ⟨0, 9⟩ (frame 30 43 1 [])).wellFormed = true ∧
    (Instr.commandDelivered ⟨0, 9⟩ (frame 30 44 1 [])).wellFormed = false ∧
    (Instr.commandDelivered ⟨0, 9⟩ (frame 30 43 1 (zeros 25))).wellFormed = false := by decide +kernel

theorem test_wf_replyKind : (Instr.replyDelivered ⟨0, 9⟩ (frame 3 47 30 [])).wellFormed = false ∧
    (Instr.replyDelivered ⟨0, 9⟩ (frame 3 48 30 [])).wellFormed = true ∧
    (Instr.replyDelivered ⟨0, 9⟩ (frame 3 52 30 [])).wellFormed = false ∧
    (Instr.replyDelivered ⟨0, 9⟩ (frame 3 51 30 (zeros 25))).wellFormed = false := by decide +kernel

theorem test_wf_network : (Instr.receiveHandoff 0 5 (zeros 9)).wellFormed = false ∧
    (Instr.receiveHandoff 0 5 (zeros 8)).wellFormed = true := by decide +kernel

theorem test_wf_line : (Instr.frameRejected ⟨0, 9⟩ (List.replicate 233 true)).wellFormed = false ∧
    (Instr.frameRejected ⟨0, 9⟩ (List.replicate 232 true)).wellFormed = true := by decide +kernel

/-! ## Formats and arithmetic -/

theorem test_no_word_spells_a_command : decodeTableWord 16 0 = none := by decide +kernel

theorem test_reset_is_the_cold_reset : State.reset = State.cold resetPins 1 [] := rfl

/-- The check of the nine digits "123456789", known for this generator and start value. -/
theorem test_check_number :
    crc ([0x31, 0x32, 0x33, 0x34, 0x35, 0x36, 0x37, 0x38, 0x39].flatMap (bitsOf 8)) = 0x29B1#16 := by decide +kernel

/-- A frame without payload lasts 41 bit times, one of 24 bytes 233 (R126). -/
theorem test_frame_length : frameTicks (frame 1 2 0 []) = 41 * 16 ∧ frameTicks (frame 1 2 0 (zeros 24)) = 233 * 16 := by decide +kernel

/-! ## Worked cases of the spec -/

/-- 3.2: 8,000 mV on channel 0, and 470 Ω. -/
theorem test_output_codes : outputCode 16000 8000 = 2048 ∧ outputCode 1000 470 = 1925 ∧
    outputCode 16000 12000 = 3071 := by decide +kernel

/-- 3.3: 1,234,567 mHz at duty 5,000. -/
theorem test_pulse_pair : pairOf 1234567 5000 = some (12960, 6480) := by decide +kernel

/-- 3.4: the ramp from 12,000 mV to 4,999 mV in four updates. -/
theorem test_level_ramp : rampCount (spanMs 17) = 4 ∧
    [1, 2, 3, 4].map (Ramp.setpoint ⟨12000, 4999, 4, 0, 0⟩) = [10250, 8500, 6750, 4999] ∧
    [10250, 8500, 6750, 4999].map (outputCode 16000) = [2623, 2175, 1728, 1279] := by decide +kernel

/-- 4.5: the frame of entry 4, and its checksum. -/
theorem test_frame_of_entry_4 :
    buildPayload
      { Plan.reset with bindings := [(0, ⟨4, 2, 4, 1, 1, 1000, 0⟩), (1, ⟨4, 14, 3, 6, 1, 16, -100⟩)] }
      (fun c => if c = 1 then 1234567 else 4999) 4
      ⟨933, 8, 10, [160, 0, 0, 255, 0, 48, 0, 0], some 10, some 8⟩
      { NetRun.reset with alive := 9, override := some (6, 85) } =
    ([160, 210, 4, 255, 128, 57, 85, 212], false) := by decide +kernel

/-- 4.5: a field value below 0 is raised to 0 and marks OVERRANGE. -/
theorem test_field_overrange : NetBinding.field ⟨4, 14, 3, 6, 1, 16, -100⟩ 0 = (0, true) := by decide +kernel

/-- 5.3: the three worked readings. -/
theorem test_readings : freqReading 101 806707 = .value 2003206 true false false ∧
    dutyReading 120000 320000 = .value 3750 false false false ∧
    levelReading 10000 7821 16 false = .value 1194 true false false := by decide +kernel

/-- 5.3: exact and inexact on one value, and their classes at the high limit (R106). -/
theorem test_exact_and_inexact :
    classify ⟨0, 8000, 0⟩ (levelReading 20000 104832 64 false) = .pass ∧
    classify ⟨0, 8000, 0⟩ (levelReading 20000 104833 64 false) = .marginal := by decide +kernel

/-- 8.2: three stations and a budget of 100. -/
def budgetRun : List View :=
  let v1 := View.claim { View.reset with active := true, total := 100 } 3 2 60
  let v2 := v1.claim 8 2 50
  let v3 := v2.claim 12 2 30
  let v4 := v3.release 3 2 20
  [v1, v2, v3, v4, v4.release 3 2 40]

/-- Held and free budget and the list after each delivery (8.2). -/
theorem test_budget_of_100 :
    budgetRun.map (fun v => [v.heldBy 3, v.heldBy 8, v.heldBy 12, v.free]) =
      [[60, 0, 0, 40], [60, 0, 0, 40], [60, 0, 0, 40], [40, 50, 0, 10], [0, 50, 30, 20]] ∧
    budgetRun.map (·.budgetList) = [[], [(8, 50)], [(8, 50), (12, 30)], [(12, 30)], []] := by decide +kernel

/-- 8.6: the view before the REBUILD END. -/
def rebuilt : View :=
  let v0 : View := { View.reset with active := true, total := 200 }
  let v1 := (((v0.attention 20).holding 5 0 0).holding 5 2 40).holding 7 1 0
  ((v1.holding 11 2 30).claim 9 2 80).claim 11 0 0

/-- 8.6: at the close the head (9, 80) is served, and station 7's lost 60 units stay lost. -/
theorem test_rebuild :
    (rebuilt.budgetList, rebuilt.panel) = ([(9, 80)], ⟨some 5, [11]⟩) ∧
    ((rebuilt.rebuildEnd 20).window, (rebuilt.rebuildEnd 20).heldBy 9, (rebuilt.rebuildEnd 20).free,
      (rebuilt.rebuildEnd 20).heldBy 7, (rebuilt.rebuildEnd 20).gantry.holder) = (none, 80, 50, 0, some 7) := by decide +kernel

/-- 10.3: FAIL, FAIL, PASS and LINE RESUME at a streak of 1. -/
def streaks : List View :=
  let v1 := View.notice { View.reset with active := true, streak := 1 } 3 2
  [v1, v1.notice 3 2, (v1.notice 3 2).notice 3 1, ((v1.notice 3 2).notice 3 1).resume]

/-- 10.3: the line stops at a streak of 3 and a PASS does not end the stop. -/
theorem test_line_stop : streaks.map (fun v => (v.streak, v.lineStopped)) =
    [(2, false), (3, true), (0, true), (0, false)] := by decide +kernel

/-! ## States for the witnesses -/

/-- Rack parameters: total 100, streak limit 3, suspect limit 2, contact interval 5. -/
def params : RackParams := ⟨100, 50, 3, 2, 5, 0, 20, 20, 20⟩

/-- A joined station under address 1, at rest, a frame of another node on the line. -/
def station : State :=
  { State.reset with
    rbi := ⟨1, .receiving, 0, [], false⟩
    view := { View.reset with active := true, total := 100 }
    claims := { Claims.cleared 0 with silent := false }
    nest := { Nest.reset resetPins with derived := true }
    net := Net.reset
    join := ⟨.joined, 0, 0, some params, none, some 0, false, false, none, false⟩ }

/-- The record of a unit under test. -/
def unit : UnitRecord := ⟨7, [65], 12, 9, 3, 0, none, .unfinished, none, []⟩

/-- A MEASURE step on a LEVEL of cell 2, its window of code 0, settle timeout 8 ms, one retest. -/
def measureStep : StepRecord := ⟨1, none, some 0, some 0, 1, 2, some 0, none, 5, false, .cell 2 0 0 4⟩

/-- A sealed plan of one step. -/
def planOf (r : StepRecord) : Plan :=
  { Plan.reset with state := .sealed, id := some 12, stepCount := 1, windows := [(0, ⟨0, 8000, 0⟩)], steps := [(0, r)] }

/-- A station that runs attempt 1 of step 0 of a unit, the nest in TESTING. -/
def testing (r : StepRecord) (st : EngineState) : State :=
  { station with
    plan := planOf r
    nest := { station.nest with state := .testing, valve := true, fixture := some 9, wear := 3,
                                clampClosed := .at true, partPresent := .at true, guardClosed := .at true }
    engine := ⟨st, 0, 1, 0, none, none, none⟩
    store := ⟨[unit], 8⟩ }

theorem station_settled : station.Settled := ⟨by decide, by decide, by decide, by decide⟩

theorem station_listens : station.Listening := ⟨by decide, by decide, by decide⟩

/-- A station that receives the frame on the line has received it from its start bit. -/
theorem hears_receiving {s : State} {dt n : Nat} (h : s.rbi.bus = .receiving) : s.Hears dt n := by
  rintro (e | e) <;> (rw [h] at e; cases e)

theorem takes_other {s : State} {f : Frame} (h1 : s.rbi.bus = .receiving) (h2 : f.src.toNat ≠ s.rbi.address) :
    Takes s 0 f :=
  ⟨(by rw [h1]; intro e; cases e), .inl ⟨h2, hears_receiving h1⟩⟩

/-! ## Witnesses: the step, the view -/

theorem wit_step : ({ station with pending := [.busIdle 5, .sentCompletion 0] } : State).pending =
    .busIdle 5 :: [.sentCompletion 0] := rfl

theorem wit_keeps : ticksOf (.busIdle 5) = some 5 ∧ exec (.busIdle 5) station = .next (station.elapse 5) ∧
    station.ParamsStand ∧ station.join.params = some params ∧ station.join.clockStart = some 0 :=
  ⟨rfl, rfl, (fun _ => by decide), rfl, rfl⟩

theorem wit_stopped : station.join.checking = false ∧ station.join.announce = none ∧ station.join.rebuildTimer = none ∧
    station.nest.clampTimer = none ∧ station.nest.contact = .none ∧ station.engine.dwell = none ∧
    station.engine.settle = none ∧ station.prompts.timer = none ∧ station.claims.panel.wait = none ∧
    station.claims.gantry.wait = none ∧ station.claims.budget.wait = none ∧ station.claims.request = .none ∧
    station.capture.arm = none ∧ State.reset.join.clockStart = none ∧ station.handler.job = none ∧
    (station.channel 0).ramp = none ∧ (station.channel 15).oneShot = none ∧ (station.channel 4).run = none ∧
    (∀ b, station.rbi.bus ≠ .sending b) := by
  refine ⟨rfl, rfl, rfl, rfl, rfl, rfl, rfl, rfl, rfl, rfl, rfl, rfl, rfl, rfl, rfl, rfl, rfl, rfl, ?_⟩
  intro b h; cases h

theorem wit_stopped_inputs : (∀ k, station.nest.contact ≠ .waiting k) ∧
    (∀ tag k, station.claims.request ≠ .outstanding tag k) ∧ station.claims.panel.retry = none ∧
    station.claims.gantry.retry = none ∧ station.claims.budget.retry = none ∧ station.sense.slot = none ∧
    (vecGet station.sense.conditions 7 ⟨false, none⟩).timer = none ∧
    (vecGet station.sense.timing 3 (.at false)).endsAt = none ∧
    (vecGet station.sense.logic 3 (.at false)).endsAt = none ∧ station.nest.partPresent.endsAt = none ∧
    station.nest.clampClosed.endsAt = none ∧ station.nest.clampOpen.endsAt = none ∧
    station.nest.guardClosed.endsAt = none :=
  ⟨(fun _ h => by cases h), (fun _ _ h => by cases h), rfl, rfl, rfl, rfl, by decide +kernel, by decide +kernel,
    by decide +kernel, rfl, rfl, rfl, rfl⟩

theorem wit_only_deliveries : isDelivery (.busIdle 5) = false ∧ (∀ p, Instr.busIdle 5 ≠ .coldReset p) ∧
    (∀ dt p, Instr.busIdle 5 ≠ .sealValidationEnd ⟨dt, p⟩) ∧ (∀ dt p l, Instr.busIdle 5 ≠ .frameRejected ⟨dt, p⟩ l) ∧
    (∀ dt p, Instr.frameRejected ⟨0, 9⟩ [] ≠ .sealValidationEnd ⟨dt, p⟩) ∧ isDelivery (.frameRejected ⟨0, 9⟩ []) = false ∧
    (TxBody.accept 32 7 0).producer = .handler ∧ (∀ tag res, TxBody.accept 32 7 0 ≠ .accept 43 tag res) ∧
    station.handler.state ≠ .replyWaiting :=
  ⟨rfl, (fun _ h => by cases h), (fun _ _ h => by cases h), (fun _ _ _ h => by cases h), (fun _ _ h => by cases h), rfl, rfl,
    (fun _ _ h => by cases h), by decide⟩

/-- A view of total 100 with station 3 holding the panel and 40 units, 8 waiting for the panel, (8, 70) waiting. -/
def shared (window : Option Nat) : State :=
  { station with view := { station.view with
      panel := ⟨some 3, [8]⟩, gantry := ⟨none, []⟩, held := (List.replicate 24 0).set 2 40,
      budgetList := [(8, 70)], window := window, streak := 2 } }

theorem takes_shared {w : Option Nat} {k src dst : Nat} {p : List Byte}
    (h : (BitVec.ofNat 5 src).toNat ≠ 1) : Takes (shared w) 0 (deliveryFrame k (sent src dst p)) :=
  takes_other rfl h

theorem from_station {n : Nat} {p : List Byte} (h : 1 ≤ n ∧ n ≤ 24) : FromStation (sent n 0 p) := by
  refine ⟨?_, ?_, rfl⟩ <;> simp only [sent, BitVec.toNat_ofNat] <;> omega

theorem wit_claim : Takes (shared none) 0 (deliveryFrame 10 (sent 24 0 [0, 0, 0])) ∧ FromStation (sent 24 0 [0, 0, 0]) ∧
    (shared none).view.active = true ∧ (shared none).view.panel.Fair ∧ (shared none).view.gantry.Fair ∧
    Takes (shared (some 9)) 0 (deliveryFrame 10 (sent 8 0 [1, 0, 0])) ∧ FromStation (sent 8 0 [1, 0, 0]) :=
  ⟨takes_shared (by decide), from_station (by decide), rfl, ⟨by decide, by intro st h; cases h; decide⟩,
    ⟨by decide, by intro st h; cases h⟩, takes_shared (by decide), from_station (by decide)⟩

/-- Claims at the amounts where the clauses meet: ignored codes and amounts, an entry that stands, 0, more than
could be served, granted at once, appended. -/
theorem wit_claim_budget : Takes (shared none) 0 (deliveryFrame 10 (sent 3 0 [2, 0, 60])) ∧ FromStation (sent 3 0 [2, 0, 60]) ∧
    3 ≤ (3 : Byte).toNat ∧ 4000 < twoBytes 15 161 ∧ twoBytes 15 160 ≤ 4000 ∧
    (∃ a, (8, a) ∈ (shared none).view.budgetList) ∧ (¬∃ a, (3, a) ∈ (shared none).view.budgetList) ∧
    (shared none).view.total < (shared none).view.held.getD 2 0 + twoBytes 0 61 ∧
    (shared none).view.held.getD 2 0 + twoBytes 0 60 ≤ (shared none).view.total ∧
    (shared none).view.budgetList ≠ [] ∧ (shared (some 9)).view.window ≠ none ∧
    (station.view.window = none ∧ station.view.budgetList = [] ∧ twoBytes 0 100 ≤ station.view.total - station.view.held.sum) ∧
    (¬∃ a, (3, a) ∈ station.view.budgetList) ∧ station.view.held.getD 2 0 + twoBytes 0 100 ≤ station.view.total := by
  refine ⟨takes_shared (by decide), from_station (by decide), by decide, by decide, by decide, ⟨70, by decide⟩, ?_,
    by decide, by decide, by decide, by decide, by decide +kernel, ?_, by decide⟩
  · rintro ⟨a, h⟩; simp [shared] at h
  · rintro ⟨a, h⟩; simp [station, View.reset] at h

theorem wit_release : Takes (shared none) 0 (deliveryFrame 9 (sent 3 0 [0, 0, 0])) ∧ FromStation (sent 3 0 [0, 0, 0]) ∧
    (shared none).view.active = true ∧ Takes (shared (some 9)) 0 (deliveryFrame 9 (sent 8 0 [1, 0, 0])) ∧
    FromStation (sent 8 0 [1, 0, 0]) ∧ Takes (shared none) 0 (deliveryFrame 9 (sent 3 0 [2, 15, 160])) ∧
    twoBytes 15 160 ≤ 4000 ∧ Takes (shared none) 0 (deliveryFrame 9 (sent 3 0 [2, 15, 161])) ∧ 4000 < twoBytes 15 161 ∧
    Takes (shared none) 0 (deliveryFrame 9 (sent 3 0 [3, 0, 0])) :=
  ⟨takes_shared (by decide), from_station (by decide), rfl, takes_shared (by decide), from_station (by decide),
    takes_shared (by decide), by decide, takes_shared (by decide), by decide, takes_shared (by decide)⟩

theorem wit_holding : Takes (shared (some 9)) 0 (deliveryFrame 8 (sent 3 0 [2, 15, 160])) ∧ FromStation (sent 3 0 [2, 15, 160]) ∧
    (shared (some 9)).view.active = true ∧ (shared (some 9)).view.window ≠ none ∧ twoBytes 15 160 ≤ 4000 ∧
    Takes (shared none) 0 (deliveryFrame 8 (sent 3 0 [0, 0, 0])) ∧ (shared none).view.window = none ∧
    Takes (shared (some 9)) 0 (deliveryFrame 8 (sent 3 0 [2, 15, 161])) ∧ 4000 < twoBytes 15 161 ∧
    Takes (shared (some 9)) 0 (deliveryFrame 8 (sent 3 0 [3, 0, 0])) :=
  ⟨takes_shared (by decide), from_station (by decide), rfl, by decide, by decide, takes_shared (by decide), rfl,
    takes_shared (by decide), by decide, takes_shared (by decide)⟩

/-- Station 1 with its own frame on the line. -/
def sending (b : TxBody) : State := { station with rbi := ⟨1, .sending 0, 0, [⟨b, true⟩], false⟩ }

theorem own_on_line (b : TxBody) : (sending b).ownOnLine = some (0, b) := rfl

theorem takes_own {b : TxBody} {f : Frame} (h : b.frame 1 = f) : Takes (sending b) 0 f :=
  ⟨(by intro e; cases e), .inr ⟨0, b, rfl, h⟩⟩

theorem wit_attention : Takes station 0 (deliveryFrame 2 (sent 9 0 [9])) ∧ FromStation (sent 9 0 [9]) ∧
    station.view.active = true ∧ Takes (sending .attention) 0 (deliveryFrame 2 (sent 1 0 [1])) ∧
    (sent 1 0 [1]).src.toNat = (sending .attention).rbi.address ∧ FromStation (sent 1 0 [1]) :=
  ⟨takes_other rfl (by decide), from_station (by decide), rfl, takes_own rfl, by decide,
    from_station (by decide)⟩

/-- Station 1 holds the gantry and 40 units, wants both and 30, and has a prompt POSTED. -/
def restating : State :=
  { shared none with
    view := { (shared none).view with gantry := ⟨some 1, []⟩, held := (List.replicate 24 0).set 0 40 }
    claims := { station.claims with
      panel := ⟨true, none, none, false, true, false⟩, gantry := ⟨true, none, none, false, true, false⟩,
      budget := ⟨30, none, none, false, true, 0, 0⟩ }
    prompts := ⟨[⟨.nest, 2, 900, none, none, .partRemoved, .posted 13⟩], none, none, 13⟩ }

theorem wit_restate : restating.Settled ∧ restating.view.window = none ∧ restating.claims.silent = false ∧
    restating.claims.gantry.want = true ∧ restating.claims.panel.want = true ∧ restating.postedEntry.isSome = true ∧
    min restating.claims.budget.want (restating.view.held.getD 0 0) ≠ 0 ∧
    ({ restating with view := (shared none).view } : State).view.held.getD 0 0 = 0 :=
  ⟨station_settled, rfl, rfl, rfl, rfl, rfl, by decide, rfl⟩

theorem wit_rebuild_end : Takes (shared (some 9)) 0 (deliveryFrame 3 (sent 9 0 [9])) ∧ FromStation (sent 9 0 [9]) ∧
    (shared (some 9)).view.window = some (9 : Byte).toNat ∧ (shared none).view.window ≠ some (9 : Byte).toNat ∧
    (shared (some 9)).claims.silent = false ∧
    ({ shared (some 9) with join := { station.join with state := .rebuilding } } : State).join.state = .rebuilding :=
  ⟨takes_shared (by decide), from_station (by decide), by decide, by decide, rfl, rfl⟩

theorem wit_force : Takes (shared none) 0 (deliveryFrame 6 (sent 30 0 [24])) ∧ (sent 30 0 [24]).src.toNat = 30 ∧
    (sent 30 0 [24]).dst = 0 ∧ (shared none).view.active = true ∧ (24 < (25 : Byte).toNat) ∧
    1 ≤ (1 : Byte).toNat ∧ (24 : Byte).toNat ≤ 24 :=
  ⟨takes_shared (by decide), by decide, rfl, rfl, by decide, by decide, by decide⟩

theorem wit_notice : Takes (shared none) 0 (deliveryFrame 11 (sent 8 0 [2, 0, 212, 9])) ∧
    FromStation (sent 8 0 [2, 0, 212, 9]) ∧ (shared none).view.active = true ∧ (shared none).join.params = some params :=
  ⟨takes_shared (by decide), from_station (by decide), rfl, rfl⟩

/-- A unit whose recorded holdings the view does not show when the window of opener 9 closes. -/
def losing (budget : Nat) : State :=
  { station with
    view := { station.view with window := some 9 }
    claims := { station.claims with
      panel := ⟨true, none, none, false, false, true⟩, gantry := ⟨true, none, none, false, false, true⟩,
      budget := ⟨40, none, none, false, false, budget, budget⟩ }
    nest := { station.nest with state := .testing, valve := true }
    engine := ⟨.awaitResult, 0, 1, 0, none, none, none⟩
    store := ⟨[unit], 8⟩ }

theorem wit_losses : (0 : Nat) < (losing 40).claims.budget.record ∧ (losing 40).openRecord.isSome = true ∧
    (losing 0).claims.budget.record ≤ 0 ∧ (losing 0).claims.gantry.record = true ∧
    (losing 0).engine.state = .awaitResult ∧ (losing 0).claims.panel.record = true ∧
    (1 : Byte).toNat = (losing 0).rbi.address ∧ (losing 0).claims.budget.want ≠ 0 ∧
    Takes (losing 0) 0 (deliveryFrame 6 (sent 30 0 [1])) ∧ Takes (losing 0) 0 (deliveryFrame 3 (sent 9 0 [9])) ∧
    nestClamped (losing 0).nest.state = true ∧ (losing 0).join.params = some params ∧
    ({ losing 0 with nest := { station.nest with state := .held, holdHalt := true } } : State).nest.holdGuard = false ∧
    station.nest.clampOpen.level = false :=
  ⟨by decide, by decide +kernel, by decide, rfl, rfl, rfl, by decide, by decide, takes_other rfl (by decide),
    takes_other rfl (by decide), rfl, rfl, rfl, rfl⟩

theorem wit_halt : (sent 29 0 []).dst = 0 ∧ (shared none).view.active = true ∧
    Takes (shared none) 0 (deliveryFrame 4 (sent 29 0 [])) ∧ (sent 29 0 []).src.toNat = 29 ∧
    Takes (shared none) 0 (deliveryFrame 5 (sent 30 0 [])) ∧ (sent 30 0 []).src.toNat = 30 :=
  ⟨rfl, rfl, takes_shared (by decide), by decide, takes_shared (by decide), by decide⟩

theorem wit_view_frames : (∃ t, exec (.claim 0 (sent 8 0 [0, 0, 0])) (shared none) = .next t) ∧
    Takes (shared none) 0 (deliveryFrame 10 (sent 8 0 [0, 0, 0])) ∧ (shared none).Settled ∧
    State.reset.view.active = false ∧ (sent 8 0 []).src.toNat ≠ State.reset.rbi.address :=
  ⟨⟨_, rfl⟩, takes_shared (by decide), station_settled, rfl, by decide⟩

/-! ## Witnesses: resets, the join, the bus -/

theorem wit_cold : 1 ≤ (1 : BitVec 5).toNat ∧ (24 : BitVec 5).toNat ≤ 24 ∧ (0 : BitVec 5).toNat = 0 ∧
    24 < (25 : BitVec 5).toNat := by decide

theorem reset_settled : State.reset.Settled := ⟨by decide, by decide, by decide, by decide⟩

/-- Outputs read back as 0, and output 15 as 1. -/
def readBack (last : BitVec 12) : Vector (BitVec 12) 16 := vecMod (Vector.replicate 16 0) 15 (fun _ => last)

/-- Every output of the reset station reads back safe and every cell reads 0. -/
theorem wit_self_check : State.reset.join.checking = true ∧ State.reset.join.state = .selfCheck ∧
    State.reset.nest.state = .empty ∧ State.reset.nest.fault = none ∧ State.reset.store.records = [] ∧
    txCount State.reset.rbi.queue .joinView < 2 ∧ State.reset.Settled ∧
    (∀ c, c < 16 → OutputSafe State.reset (readBack 0) c) ∧ (∀ c, c < 4 → ReadsZero State.reset c) ∧
    State.reset.nest.clampOpen.level = false := by
  refine ⟨rfl, rfl, rfl, rfl, rfl, by decide, reset_settled, ?_, ?_, rfl⟩
  · intro c hc
    have : c = 0 ∨ c = 1 ∨ c = 2 ∨ c = 3 ∨ c = 4 ∨ c = 5 ∨ c = 6 ∨ c = 7 ∨ c = 8 ∨ c = 9 ∨ c = 10 ∨ c = 11 ∨
      c = 12 ∨ c = 13 ∨ c = 14 ∨ c = 15 := by omega
    rcases this with rfl | rfl | rfl | rfl | rfl | rfl | rfl | rfl | rfl | rfl | rfl | rfl | rfl | rfl | rfl | rfl <;>
      (unfold OutputSafe; decide +kernel)
  · intro c hc
    have : c = 0 ∨ c = 1 ∨ c = 2 ∨ c = 3 := by omega
    rcases this with rfl | rfl | rfl | rfl <;> (unfold ReadsZero; decide +kernel)

/-- Station 1 with switch 14 INVERTED, a cell that does not read 0, and clamp sensors in conflict. -/
def faulty : State :=
  { State.reset with
    plan := { Plan.reset with state := .sealed, channelSetups := [(14, ⟨1, 0, 0, 0, 0, 0⟩)] }
    sense := { State.reset.sense with samples := #v[[4095], [], [], []] }
    nest := { State.reset.nest with clampClosed := .at true, clampOpen := .at true } }

theorem wit_self_check_fails : ¬OutputSafe faulty (readBack 1) 15 ∧ ¬OutputSafe faulty (readBack 0) 14 ∧
    OutputSafe faulty (readBack 0) 13 ∧ ¬ReadsZero faulty 0 ∧
    faulty.nest.clampClosed.level = true ∧ faulty.nest.clampOpen.level = true :=
  ⟨(by unfold OutputSafe; decide +kernel), (by unfold OutputSafe; decide +kernel), (by unfold OutputSafe; decide +kernel), (by unfold ReadsZero; decide +kernel), rfl, rfl⟩

/-- A station that awaits its rack parameters. -/
def awaiting : State :=
  { station with view := View.reset, join := ⟨.awaitingParameters, 0, 0, none, some 640000, none, false, false, none, false⟩ }

theorem wit_parameters : Takes awaiting 0 (deliveryFrame 20 (sent 30 0 [7, 15, 161, 7, 209, 1, 9, 0, 0, 0, 0, 128, 127, 0])) ∧
    (sent 30 0 []).src.toNat = 30 ∧ (sent 30 0 []).dst = 0 ∧ awaiting.join.state = .awaitingParameters ∧
    txCount awaiting.rbi.queue .handler < 4 ∧ station.join.state ≠ .announcing ∧
    station.join.state ≠ .awaitingParameters ∧ station.Settled :=
  ⟨takes_other rfl (by decide), by decide, rfl, rfl, by decide, by decide, by decide, station_settled⟩

theorem wit_join_timers :
    (({ sending (.addressTaken 0 0 1) with join := { awaiting.join with state := .announcing } } : State).ownOnLine =
        some (0, .addressTaken 0 0 1) ∧
      (TxBody.addressTaken 0 0 1).frame 1 = deliveryFrame 1 (sent 1 0 [1, 0, 0, 1])) ∧
    (station.rbi.bus ≠ .silent ∧ (sent 9 0 [9, 0, 0, 1]).src.toNat ≠ station.rbi.address ∧ station.rbi.address < 32) ∧
    (awaiting.join.announce = some 640000 ∧ awaiting.join.state = .awaitingParameters ∧
      txCount awaiting.rbi.queue .joinView < 2) ∧
    (({ shared (some 9) with join := { station.join with rebuildTimer := some 5 } } : State).join.rebuildTimer = some 5 ∧
      (shared (some 9)).view.window = some 9) :=
  ⟨⟨rfl, rfl⟩, ⟨by decide, by decide, by decide⟩, ⟨rfl, rfl, by decide⟩, rfl, rfl⟩

theorem wit_conflict : (∃ start, (sending .attention).rbi.bus = .sending start) ∧
    (station.rbi.bus ≠ .silent ∧ (frame 1 2 0 [1]).src.toNat = station.rbi.address ∧ station.Hears 0 49 ∧
      ∀ start b, station.ownOnLine = some (start, b) → b.frame station.rbi.address ≠ frame 1 2 0 [1]) ∧
    (∃ r ∈ (testing measureStep .acquiring).store.records, r.verdict = .unfinished) ∧
    ({ station with rbi := { station.rbi with bus := .silent } } : State).rbi.bus = .silent :=
  ⟨⟨0, rfl⟩, ⟨by decide, by decide, hears_receiving rfl, (by intro _ _ h; cases h)⟩, ⟨unit, by decide, rfl⟩, rfl⟩

theorem wit_frame_bits : (frame 1 2 0 (zeros 24)).payload.length ≤ 24 ∧
    wellFormedBits (frameBits (frame 1 2 0 [1])) = true := by decide +kernel

theorem wit_bus : State.reset.rbi.bus = .settling ∧ (sending .attention).rbi.bus = .sending 0 ∧
    (TxBody.attention).producer = .joinView := ⟨rfl, rfl, rfl⟩

/-- Nothing is due at a silent station, nor at station 1 with a reply of its own on the line. -/
theorem wit_nothing_due : NothingDue State.reset ∧
    NothingDue { State.reset with rbi := ⟨1, .settling, 0, [⟨.attention, false⟩], false⟩ } ∧
    NothingDue { sending .attention with claims := Claims.cleared 0 } ∧
    NothingDue { State.reset with rbi := { State.reset.rbi with bus := .idle } } ∧
    (NothingDue (sending (.accept 32 7 0)) ∧ (sending (.accept 32 7 0)).rbi.queue = [⟨.accept 32 7 0, true⟩] ∧
      (sending (.accept 32 7 0)).handler.state ≠ .resetting ∧ (sending (.accept 32 7 0)).handler.slot = none) := by
  refine ⟨⟨reset_settled, rfl, rfl, .inl rfl⟩, ⟨reset_settled, rfl, rfl, .inl rfl⟩,
    ⟨station_settled, rfl, rfl, .inl rfl⟩, ⟨reset_settled, rfl, rfl, .inl rfl⟩, ⟨station_settled, rfl, rfl, .inr ⟨rfl, rfl, rfl, by decide +kernel, by decide +kernel,
      by decide +kernel, rfl, ?_, rfl⟩⟩, rfl, by decide, rfl⟩
  intro e h r; have := List.mem_singleton.1 h; subst this; cases r <;> decide

/-- A frame that began before the station was settling has not been received. -/
theorem wit_hears : ({ station with rbi := ⟨1, .settling, 656, [], false⟩ } : State).Hears 1312 41 ∧
    ¬({ station with rbi := ⟨1, .settling, 656, [], false⟩ } : State).Hears 1311 41 := by
  constructor <;> simp [State.Hears, station, State.reset]

theorem wit_rejected : (sending (.claim .budget 60)).ownOnLine = some (0, .claim .budget 60) ∧
    station.rbi.bus = .receiving ∧ wellFormedBits (frameBits (frame 30 40 1 [7])) = true ∧
    wellFormedBits [] = false := by
  refine ⟨rfl, rfl, ?_, ?_⟩ <;> decide +kernel

/-- A CLAIM of budget on the line in an OPEN window, 40 units held and recorded, none of them wanted any more. -/
def claimFallen : State :=
  { sending (.claim .budget 60) with
    view := { station.view with window := some 9, held := (List.replicate 24 0).set 0 40 }
    claims := { station.claims with budget := ⟨0, none, none, false, false, 40, 40⟩ } }

theorem wit_rejected_open : claimFallen.ownOnLine = some (0, .claim .budget 60) ∧ claimFallen.Settled ∧
    (∀ e ∈ claimFallen.rbi.queue, e.onLine = false → e.body.producer ≠ .claimUnit .budget) ∧
    claimFallen.claims.freshOf .budget = false ∧ (∀ x ∈ claimFallen.prompts.entries, x.state ≠ .queued) := by
  refine ⟨rfl, station_settled, ?_, rfl, ?_⟩
  · intro e h hl; have := List.mem_singleton.1 h; subst this; cases hl
  · intro x h; cases h

/-- The same with the CLAIM rejected and its retry timer running, the window as given. -/
def retryFallen (window : Option Nat) : State :=
  { claimFallen with
    rbi := station.rbi
    view := { claimFallen.view with window := window }
    claims := { claimFallen.claims with budget := ⟨0, some 32000, none, false, false, 0, 0⟩ } }

/-- In an OPEN window the RELEASE does not wait for the retry timer (R159); while CLOSED it does (R155). -/
theorem test_release_before_retry :
    (retryFallen (some 9)).claimCheck.rbi.queue.map (·.body) = [.release .budget 40] ∧
    (retryFallen none).claimCheck.rbi.queue = [] := by
  constructor <;> decide +kernel

theorem wit_unrouted : station.rbi.bus ≠ .silent ∧ station.rbi.address < 32 ∧
    (frame 9 44 0 []).src.toNat ≠ station.rbi.address ∧ 44 ≤ (frame 9 44 0 []).kind.toNat ∧
    (frame 9 0 0 []).kind.toNat = 0 ∧ (frame 30 43 2 []).dst.toNat ≠ station.rbi.address ∧ station.Settled ∧
    ¬Accepted 1 (frame 9 44 0 []) ∧ ¬Accepted 1 (frame 25 10 0 [0, 0, 0]) ∧ ¬Accepted 1 (frame 9 19 0 []) ∧
    (frame 9 10 0 [0]).payload.length ≠ kindLength 10 := by
  refine ⟨by decide, by decide, by decide, by decide, by decide, by decide, station_settled, ?_, ?_, ?_, by decide⟩ <;>
    (unfold Accepted; decide)

/-- A step of the invariants: station 1 is safe, and its step with a waiting command answers a next state. -/
theorem wit_invariants : (∃ t, step { station with pending := [.busIdle 5] } = .next t) ∧
    ({ station with pending := [.busIdle 5] } : State).StoresSound ∧
    ({ station with pending := [.busIdle 5] } : State).RestsOutsideTest ∧
    ({ station with pending := [.busIdle 5] } : State).ValveSound := by
  refine ⟨⟨_, rfl⟩, ⟨⟨List.Pairwise.nil, ?_⟩, Nat.zero_le 4, ⟨Nat.zero_le 4, by decide⟩, rfl⟩, ?_, ⟨⟨by decide, by decide, by decide⟩, ?_⟩⟩
  · intro p; exact Nat.zero_le _
  · intro _
    refine ⟨?_, rfl, rfl, rfl, ?_⟩
    · intro ch h
      have : ch = Channel.reset := by simpa [station, State.reset, Stim.reset] using h
      subst this; exact ⟨rfl, rfl, rfl, rfl, rfl, rfl, rfl, rfl, rfl⟩
    · intro e h
      have : e = NetRun.reset := by simpa [station, Net.reset] using h
      subst this; rfl
  · intro a h; cases h

theorem wit_view_invariant : (∃ t, step (shared none) = .next t) ∧ (shared none).ViewSound := by
  refine ⟨⟨_, rfl⟩, ⟨⟨by decide, by intro st h; cases h; decide⟩, ⟨by decide, by intro st h; cases h⟩, by decide,
    by decide, by decide⟩, ?_⟩
  intro h; rcases h with h | h | h <;> cases h

/-! ## Witnesses: the commands of the line node -/

theorem station_ready {p : List Byte} : station.ReadyFor 0 (sent 30 1 p) :=
  ⟨station_listens, hears_receiving rfl, rfl, rfl, rfl, rfl, by decide⟩

theorem testing_ready {r : StepRecord} {st : EngineState} {p : List Byte} : (testing r st).ReadyFor 0 (sent 30 1 p) :=
  ⟨station_listens, hears_receiving rfl, rfl, rfl, rfl, rfl, Nat.zero_lt_succ 3⟩

theorem station_joined : HasJoined station := .inl rfl

/-- A handler that carries out a PLAN SEAL with `n` commands waiting. -/
def busyHandler (n : Nat) : State := { station with handler := ⟨.carryingOut, List.replicate n ⟨40, [1]⟩, none, none⟩ }

theorem wit_commands_wait : (busyHandler 3).Listening ∧ (frame 30 43 1 [7]).src.toNat = 30 ∧
    (frame 30 32 1 [7]).dst.toNat = 1 ∧ 32 ≤ (frame 30 32 1 [7]).kind.toNat ∧ (frame 30 43 1 [7]).kind.toNat ≤ 43 ∧
    (busyHandler 3).handler.queue.length < 4 ∧ (busyHandler 3).handler.state ≠ .ready ∧
    4 ≤ (busyHandler 4).handler.queue.length ∧ (busyHandler 3).Settled :=
  ⟨station_listens, by decide, by decide, by decide, by decide, by decide, by decide, by decide, station_settled⟩

theorem wit_wrong_length : station.ReadyFor 0 (sent 30 1 [7, 0]) ∧ ([0] : List Byte).length ≠ 2 ∧
    (¬HasJoined awaiting) ∧ awaiting.ReadyFor 0 (sent 30 1 [7]) :=
  ⟨station_ready, by decide, (by intro h; rcases h with h | h <;> cases h), ⟨⟨by decide, by decide, by decide⟩,
    hears_receiving rfl, rfl, rfl, rfl, rfl, by decide⟩⟩

theorem wit_plan_begin : station.ReadyFor 0 (sent 30 1 [7, 255, 255]) ∧ HasJoined station ∧
    (∀ r ∈ station.store.records, r.verdict ≠ .unfinished) ∧ twoBytes 0 0 = 0 ∧ twoBytes 255 255 ≠ 0 ∧
    (testing measureStep .dwell).ReadyFor 0 (sent 30 1 [7, 0, 1]) ∧ HasJoined (testing measureStep .dwell) ∧
    (∃ r ∈ (testing measureStep .dwell).store.records, r.verdict = .unfinished) :=
  ⟨station_ready, station_joined, (by intro r h; cases h), by decide, by decide, testing_ready, .inl rfl,
    ⟨unit, by decide, rfl⟩⟩

/-- A station whose plan 12 is LOADING, scene 3 RETAINED. -/
def loadingStation : State :=
  { station with plan := { planOf measureStep with state := .loading, written := 2, heads := [(3, ⟨0, true, 1, true⟩)] } }

theorem wit_plan_record : loadingStation.ReadyFor 0 (sent 30 1 ([7, 0, 12, 4, 0, 63] ++ zeros 12)) ∧
    HasJoined loadingStation ∧ (zeros 12).length = 12 ∧ loadingStation.plan.state = .loading ∧
    loadingStation.plan.id = some (twoBytes 0 12) ∧ loadingStation.plan.id ≠ some (twoBytes 0 13) ∧
    twoBytes 0 63 ≤ 63 ∧ 63 < twoBytes 0 64 ∧ station.plan.state ≠ .loading ∧ (zeros 10).length = 10 ∧
    16 ≤ twoBytes 0 48 ∧ twoBytes 0 48 ≤ 511 ∧ loadingStation.plan.retained (twoBytes 0 48 / 16) = true := by
  refine ⟨⟨station_listens, hears_receiving rfl, rfl, rfl, rfl, rfl, by decide⟩, .inl rfl, ?_⟩; decide +kernel

/-- The last slot of each kind and the first beyond it; channel 0 has no setup. -/
theorem wit_slots : InSlots 1 15 ∧ ¬InSlots 1 16 ∧ ¬InSlots 1 0 ∧ InSlots 2 11 ∧ ¬InSlots 2 12 ∧ InSlots 3 7 ∧
    ¬InSlots 3 8 ∧ InSlots 4 63 ∧ ¬InSlots 4 64 ∧ InSlots 5 31 ∧ ¬InSlots 5 32 ∧ InSlots 6 511 ∧ ¬InSlots 6 512 ∧
    InSlots 7 23 ∧ ¬InSlots 7 24 ∧ InSlots 8 31 ∧ ¬InSlots 8 32 ∧ InSlots 9 15 ∧ ¬InSlots 9 16 ∧ InSlots 10 15 ∧
    ¬InSlots 10 16 ∧ InSlots 11 95 ∧ ¬InSlots 11 96 ∧ loadingStation.plan.retained 3 = true ∧
    loadingStation.plan.retained 4 = false ∧ (zeros 10).length = fieldBytes 6 ∧ (zeros 18).length = fieldBytes 11 := by
  refine ⟨?_, ?_, ?_, ?_, ?_, ?_, ?_, ?_, ?_, ?_, ?_, ?_, ?_, ?_, ?_, ?_, ?_, ?_, ?_, ?_, ?_, ?_, ?_, ?_, ?_, ?_, ?_⟩ <;>
    (try unfold InSlots) <;> decide

/-- An APPLY step of scene 0. -/
def applyStep : StepRecord := ⟨0, some (0, true), some 0, none, 0, 1, none, none, 1, false, .none⟩

/-- A handler that validates plan 12, one APPLY step and one window. -/
def validating : State :=
  { station with
    plan := { planOf applyStep with state := .loading, written := 2 }
    handler := ⟨.carryingOut, [], none, some ⟨7, 1, 2, 0⟩⟩ }

theorem wit_seal : loadingStation.ReadyFor 0 (sent 30 1 [7, 0, 12, 96, 0, 2]) ∧ HasJoined loadingStation ∧
    validating.handler.job = some ⟨7, 1, 2, 0⟩ ∧ validating.handler.queue = [] ∧
    txCount validating.rbi.queue .handler < 4 ∧ validating.plan.validate 1 2 = none ∧
    validating.plan.validate 1 3 = some (20, 0) := by
  refine ⟨⟨station_listens, hears_receiving rfl, rfl, rfl, rfl, rfl, by decide⟩, .inl rfl, rfl, rfl, by decide, ?_, ?_⟩ <;> decide +kernel

/-- A station with a part loaded, a sealed plan 12, the guard closed and the clamp open. -/
def loaded : State :=
  { station with
    plan := planOf measureStep
    nest := { station.nest with state := .loaded, partPresent := .at true, clampOpen := .at true, guardClosed := .at true } }

theorem loaded_ready {p : List Byte} : loaded.ReadyFor 0 (sent 30 1 p) := ⟨station_listens, hears_receiving rfl, rfl, rfl, rfl, rfl, by decide⟩

theorem wit_unit_start : loaded.ReadyFor 0 (sent 30 1 ([7, 0, 12, 16] ++ List.replicate 16 126)) ∧
    (List.replicate 16 (126 : Byte)).length = 16 ∧ 1 ≤ (1 : Byte).toNat ∧ (16 : Byte).toNat ≤ 16 ∧
    (∀ b ∈ (List.replicate 16 (126 : Byte)).take 16, 32 ≤ b.toNat ∧ b.toNat ≤ 126) ∧ loaded.join.state = .joined ∧
    loaded.join.params = some params ∧ twoBytes 0 12 ≠ 0 ∧ loaded.view.halted = false ∧
    loaded.view.lineStopped = false ∧ (∀ r ∈ loaded.store.records, r.verdict ≠ .unfinished) ∧
    loaded.store.records.length < 4 ∧ loaded.plan.state = .sealed ∧ loaded.plan.id = some (twoBytes 0 12) ∧
    loaded.nest.state = .loaded ∧ loaded.nest.guardClosed.level = true ∧ loaded.nest.clampClosed.level = false ∧
    (1 : BitVec 6).toNat ≠ 0 ∧ (62 : BitVec 6).toNat ≠ 63 ∧ loaded.Settled :=
  ⟨loaded_ready, rfl, by decide, by decide, by decide, rfl, rfl, by decide, rfl, rfl, (by intro r h; cases h), by decide,
    rfl, rfl, rfl, rfl, rfl, by decide, by decide, station_settled⟩

/-- A refusal of each check of UNIT START, in their order, on stations that fail it and no check before it. -/
theorem wit_start_refusals :
    FirstStartRefusal { loaded with join := { loaded.join with state := .failedJoined, qualifier := 2 } } 1 12 1 [65] 1 2 2 ∧
    FirstStartRefusal { loaded with join := { loaded.join with state := .rebuilding } } 1 12 1 [65] 1 1 0 ∧
    FirstStartRefusal loaded 1 0 1 [65] 2 3 1 ∧ FirstStartRefusal loaded 1 12 0 [65] 2 3 2 ∧
    FirstStartRefusal loaded 1 12 1 [127] 2 3 2 ∧
    FirstStartRefusal { loaded with view := { loaded.view with halted := true } } 1 12 1 [65] 5 1 0 ∧
    FirstStartRefusal { loaded with view := { loaded.view with lineStopped := true } } 1 12 1 [65] 4 1 0 ∧
    FirstStartRefusal { loaded with store := ⟨[unit], 8⟩ } 1 12 1 [65] 3 1 0 ∧
    FirstStartRefusal { loaded with engine := { loaded.engine with state := .ending } } 1 12 1 [65] 3 2 0 ∧
    FirstStartRefusal { loaded with store := ⟨List.replicate 4 { unit with verdict := .pass }, 8⟩ } 1 12 1 [65] 6 1 0 := by
  simp [FirstStartRefusal, loaded, station, planOf, unit, State.reset, View.reset, Engine.reset, List.replicate]

theorem wit_start_refusals_later :
    FirstStartRefusal { loaded with plan := Plan.reset } 1 12 1 [65] 1 3 0 ∧
    FirstStartRefusal loaded 1 13 1 [65] 2 2 0 ∧
    FirstStartRefusal { loaded with nest := { loaded.nest with state := .empty } } 1 12 1 [65] 1 4 0 ∧
    FirstStartRefusal { loaded with nest := { loaded.nest with guardClosed := .at false } } 1 12 1 [65] 1 5 0 ∧
    FirstStartRefusal loaded 0 12 1 [65] 1 6 0 ∧ FirstStartRefusal loaded 63 12 1 [65] 1 6 63 := by
  simp [FirstStartRefusal, loaded, station, planOf, Plan.reset, State.reset, View.reset, Engine.reset, Deglitch.at]

theorem wit_unit_abort : (testing measureStep .dwell).ReadyFor 0 (sent 30 1 [7, 0, 7]) ∧
    HasJoined (testing measureStep .dwell) ∧ (testing measureStep .dwell).openRecord = some unit ∧
    unit.seq.toNat = twoBytes 0 7 ∧ unit.seq.toNat ≠ twoBytes 0 8 ∧ station.ReadyFor 0 (sent 30 1 [7, 0, 7]) ∧
    (∀ r ∈ station.store.records, r.verdict ≠ .unfinished) :=
  ⟨testing_ready, .inl rfl, by decide +kernel, by decide, by decide, station_ready, (by intro r h; cases h)⟩

/-- A record that holds three results. -/
def closed : UnitRecord :=
  { unit with verdict := .pass, finish := some 9,
              results := [⟨0, 1, .pass, some (-5), {}, none⟩, ⟨1, 1, .pass, none, {}, none⟩, ⟨2, 2, .pass, none, {}, none⟩] }

/-- A station that holds the closed record. -/
def withRecord : State := { station with store := ⟨[closed], 8⟩ }

/-- A record found, an unknown sequence, segments 0, 1, 2 and one beyond the results. -/
theorem wit_verdict_query : withRecord.ReadyFor 0 (sent 30 1 [7, 0, 7, 2]) ∧ HasJoined withRecord ∧
    withRecord.recordOf (twoBytes 0 7) = some closed ∧
    (∀ r ∈ withRecord.store.records, r.seq.toNat ≠ twoBytes 0 8) ∧ withRecord.Settled ∧
    closed.results[2 * (2 : Byte).toNat - 2]? = some ⟨2, 2, .pass, none, {}, none⟩ ∧
    closed.results[2 * (1 : Byte).toNat - 1]? = some ⟨1, 1, .pass, none, {}, none⟩ ∧
    closed.results.length ≤ 2 * (3 : Byte).toNat - 2 :=
  ⟨⟨station_listens, hears_receiving rfl, rfl, rfl, rfl, rfl, by decide⟩, .inl rfl, rfl, by decide, station_settled, rfl, rfl, by decide⟩

theorem wit_verdict_release : withRecord.ReadyFor 0 (sent 30 1 [7, 0, 7]) ∧ HasJoined withRecord ∧
    withRecord.recordOf (twoBytes 0 7) = some closed ∧ closed.verdict ≠ .unfinished ∧ withRecord.Settled ∧
    (testing measureStep .dwell).recordOf (twoBytes 0 7) = some unit ∧ unit.verdict = .unfinished :=
  ⟨⟨station_listens, hears_receiving rfl, rfl, rfl, rfl, rfl, by decide⟩, .inl rfl, rfl, by decide, station_settled, by decide +kernel, rfl⟩

/-- STATUS QUERY, VOID UNIT, CLEAR SUSPECT and STATION RESET. -/
theorem wit_plain_commands : station.ReadyFor 0 (sent 30 1 [7]) ∧ HasJoined station ∧ station.Settled :=
  ⟨station_ready, station_joined, station_settled⟩

/-- A nest in FAULT 906 with the clamp closed or open. -/
def faulted (isClosed : Bool) : State :=
  { station with nest := { station.nest with state := .fault, fault := some 906, clampClosed := .at isClosed } }

theorem wit_clear_fault : (faulted true).ReadyFor 0 (sent 30 1 [7]) ∧ HasJoined (faulted true) ∧
    (faulted true).nest.state = .fault ∧ (faulted true).join.params = some params ∧ (faulted true).Settled ∧
    (faulted true).nest.clampClosed.level = true ∧ (faulted true).nest.clampOpen.level = false ∧
    (faulted false).nest.clampClosed.level = false ∧ station.nest.state ≠ .fault :=
  ⟨⟨station_listens, hears_receiving rfl, rfl, rfl, rfl, rfl, by decide⟩, .inl rfl, rfl, rfl, station_settled, rfl, rfl, rfl, by decide⟩

/-- A station whose ACCEPT of a STATION RESET is on the line. -/
def resetting : State :=
  { sending (.accept 43 7 0) with handler := ⟨.resetting, [], none, none⟩, store := ⟨[unit], 8⟩ }

theorem wit_station_reset : station.ReadyFor 0 (sent 30 1 [7]) ∧ HasJoined station ∧
    resetting.ownOnLine = some (0, .accept 43 7 0) ∧ resetting.handler.state = .resetting ∧
    resetting.rbi.address ≠ 30 ∧ (∃ r ∈ resetting.store.records, r.verdict = .unfinished) :=
  ⟨station_ready, station_joined, rfl, rfl, by decide, ⟨unit, by decide, rfl⟩⟩

/-- A handler whose reply waits in the reply slot. -/
def replyWaiting : State :=
  { sending (.accept 32 7 0) with handler := ⟨.replyWaiting, [], some (.accept 40 8 0), none⟩ }

theorem wit_reply : replyWaiting.ownOnLine = some (0, .accept 32 7 0) ∧ replyWaiting.handler.state = .replyWaiting ∧
    replyWaiting.handler.slot = some (.accept 40 8 0) ∧ (TxBody.accept 40 8 0).producer = .handler ∧
    replyWaiting.handler.queue = [] ∧ txCount replyWaiting.rbi.queue .handler ≤ 4 ∧ replyWaiting.rbi.address ≤ 24 ∧
    station.rbi.bus ≠ .silent ∧ station.rbi.address < 32 ∧ (frame 9 51 30 []).src.toNat ≠ station.rbi.address ∧
    48 ≤ (frame 9 48 30 []).kind.toNat ∧ (frame 9 51 30 []).kind.toNat ≤ 51 :=
  ⟨rfl, rfl, rfl, rfl, rfl, by decide, by decide, by decide, by decide, by decide, by decide, by decide⟩

/-! ## Witnesses: inputs, the nest, readings -/

/-- Station 1 with a raw level away from the deglitched one on every input, the deglitch ending at tick 400. -/
def moving : State :=
  { station with
    nest := { station.nest with
      partPresent := ⟨true, false, some 400⟩, clampClosed := ⟨true, false, some 400⟩,
      clampOpen := ⟨true, false, some 400⟩, guardClosed := ⟨true, false, some 400⟩ }
    sense := { station.sense with
      timing := Vector.replicate 4 ⟨true, false, some 400⟩, logic := Vector.replicate 4 ⟨true, false, some 400⟩
      conditions := Vector.replicate 8 ⟨false, some 400⟩ } }

theorem moving_unwatched : moving.Unwatched :=
  ⟨(by intro a h; cases h), by decide, (by intro e h; cases h)⟩

/-- Cell setups with a deglitch of 1. -/
def deglitched : State :=
  { moving with plan := { Plan.reset with state := .sealed, cellSetups :=
      [(4, ⟨0, 0, 0, 0, 1⟩), (7, ⟨0, 0, 0, 0, 1⟩), (8, ⟨0, 0, 0, 0, 1⟩), (11, ⟨0, 0, 0, 0, 1⟩)] } }

theorem wit_inputs : moving.Settled ∧ moving.Unwatched ∧ true = (moving.nest.sensor .clampOpen).raw ∧
    true = (vecGet moving.sense.timing 3 (.at false)).raw ∧ true = (vecGet moving.sense.logic 0 (.at false)).raw ∧
    false ≠ (moving.nest.sensor .guardClosed).raw ∧ 0 < (deglitched.plan.cellSetup 4).deglitch ∧
    0 < (deglitched.plan.cellSetup 7).deglitch ∧ 0 < (deglitched.plan.cellSetup 8).deglitch ∧
    0 < (deglitched.plan.cellSetup 11).deglitch ∧ (vecGet moving.sense.timing 3 (.at false)).endsAt = some 400 ∧
    moving.sense.slot = none ∧ (vecGet moving.sense.logic 0 (.at false)).endsAt = some 400 ∧
    (vecGet moving.sense.conditions 7 ⟨false, none⟩).timer = some 400 := by
  refine ⟨station_settled, moving_unwatched, ?_⟩; decide +kernel

/-- The last step of a unit waits for an event of condition 7, whose qualify timer expires at tick 400 with a RISE. -/
def watching (r : StepRecord) (st : EngineState) (slot : Option Acquisition) (prompts : List PromptEntry) : State :=
  { testing r st with sense := { moving.sense with slot := slot }, prompts := ⟨prompts, none, none, 13⟩ }

/-- An ELAPSED step on the RISE of condition 7. -/
def elapsedStep : StepRecord := { measureStep with source := .elapsed 7 0 }

theorem wit_events : (vecGet moving.sense.conditions 7 ⟨false, none⟩).timer = some 400 ∧
    (watching elapsedStep .acquiring none []).Settled ∧ elapsedStep.kind = 1 ∧
    (watching elapsedStep .acquiring none []).stepNow.source = .elapsed 7 0 ∧
    GoesOn (watching elapsedStep .acquiring none []) (.value 0 false false false) ∧
    (watching { measureStep with kind := 2, source := .event 7 2 } .acquiring none []).stepNow.source = .event 7 2 ∧
    (watching { measureStep with kind := 2, source := .event 7 2 } .acquiring none []).net.anyLate = false ∧
    (watching { measureStep with kind := 2, source := .event 7 2 } .acquiring none []).openRecord = some unit ∧
    (watching { measureStep with kind := 4 } .awaitAnswer none
        [⟨.step, 2, 311, none, some 8, .condition 7, .posted 13⟩]).entryFrom .step =
      some ⟨.step, 2, 311, none, some 8, .condition 7, .posted 13⟩ ∧
    (watching { measureStep with kind := 4 } .awaitAnswer none []).plan.stepCount ≤ 0 + 1 :=
  ⟨by decide +kernel, ⟨(by intro h; cases h), (by intro h; cases h), (by intro h; cases h), (by intro h; cases h)⟩, rfl, rfl,
    (by rintro ⟨-, h⟩; exact absurd (show 2 ≤ 1 from h) (by decide)), rfl, by decide +kernel, by decide +kernel, rfl,
    by decide⟩

/-- `moving` with the nest in a state, the part about to come or go and the guard about to close or open. -/
def nestAt (st : NestState) (raw : Bool) : State :=
  { moving with nest := { moving.nest with state := st, valve := nestClamped st, partPresent := ⟨raw, !raw, some 400⟩,
                                           guardClosed := ⟨raw, !raw, some 400⟩ } }

theorem nestAt_unwatched {st : NestState} {b : Bool} : (nestAt st b).Unwatched := moving_unwatched

theorem wit_part_and_guard : (nestAt .empty true).nest.derived = true ∧ (nestAt .empty true).Settled ∧
    (nestAt .empty true).Unwatched ∧ (nestAt .empty true).nest.partPresent.endsAt = some 400 ∧
    (nestAt .empty true).nest.partPresent.raw = true ∧ (nestAt .unload false).nest.partPresent.raw = false ∧
    nestClamped (nestAt .clamping false).nest.state = true ∧
    ({ nestAt .clamping false with store := ⟨[unit], 8⟩ } : State).openRecord.isSome = true ∧
    (nestAt .held false).nest.guardClosed.raw = false ∧ (nestAt .held true).nest.guardClosed.endsAt = some 400 ∧
    (nestAt .held true).nest.holdHalt = false ∧ (nestAt .held true).nest.clampOpen.level = false ∧
    (nestAt .held true).join.params = some params ∧
    ({ nestAt .held true with nest := { (nestAt .held true).nest with holdHalt := true } } : State).nest.holdHalt = true :=
  ⟨rfl, station_settled, nestAt_unwatched, rfl, rfl, rfl, rfl, by decide +kernel, rfl, rfl, rfl, rfl, rfl, rfl⟩

/-- A nest in CLAMPING with a unit open whose plan checks channel 9 on cell 1; a check is owed by the counter. -/
def clamping (counter : Nat) : State :=
  { nestAt .clamping true with
    nest := { (nestAt .clamping true).nest with counter := counter, clampOpen := .at false }
    store := ⟨[unit], 8⟩
    plan := { planOf { applyStep with scene := none } with pairs := [(5, ⟨9, 1, 1, 0⟩)] } }

theorem wit_clamp : (clamping 4).nest.derived = true ∧ (clamping 4).Settled ∧ (clamping 4).Unwatched ∧
    (clamping 4).nest.clampClosed.endsAt = some 400 ∧ (clamping 4).nest.clampClosed.raw = true ∧
    (clamping 4).nest.state = .clamping ∧ (clamping 4).nest.clampOpen.level = false ∧
    (clamping 4).join.params = some params ∧ CheckOwed (clamping 4) params 1 5 ∧ ¬CheckOwed (clamping 3) params 1 4 ∧
    (clamping 4).plan.pairFrom 0 = some (5, ⟨9, 1, 1, 0⟩) ∧ (clamping 3).openRecord.isSome = true ∧
    (clamping 3).engine.state = .idle ∧ StartsWithDwell (clamping 3) 0 ∧
    (planOf { applyStep with scene := none }).pairFrom 0 = none :=
  ⟨rfl, station_settled, moving_unwatched, rfl, rfl, rfl, rfl, rfl, .inr (.inl (by decide)),
    (by rintro (h | h | h | ⟨h, -⟩) <;> revert h <;> decide), by decide +kernel, by decide +kernel, rfl, ⟨rfl, rfl⟩, rfl⟩

theorem wit_clamp_open : (nestAt .releasing true).nest.clampOpen.endsAt = some 400 ∧
    (nestAt .releasing true).nest.clampOpen.raw = true ∧ (nestAt .releasing true).nest.clampClosed.level = false ∧
    (nestAt .releasing false).nest.partPresent.level = true ∧ (nestAt .releasing true).nest.partPresent.level = false ∧
    ({ nestAt .contacting true with nest := { (nestAt .contacting true).nest with contact := .opening, valve := false } } :
      State).nest.contact = .opening ∧
    ({ nestAt .clamping true with nest := { (nestAt .clamping true).nest with clampClosed := .at true } } :
      State).nest.clampClosed.level = true := by decide +kernel

/-- A contact check that waits on slot 5, its pair on cell `c`. -/
def contacting (c : Nat) : State :=
  { station with
    nest := { station.nest with state := .contacting, valve := true, position := 5, contact := .waiting 400, clampTimer := some 400 }
    plan := { planOf applyStep with pairs := [(5, ⟨9, 1, c, 0⟩)] } }

theorem wit_clamp_timers : (contacting 1).Settled ∧ (contacting 1).nest.clampTimer = some 400 ∧
    (contacting 1).nest.contact = .waiting 400 ∧
    slotGet (contacting 1).plan.pairs (contacting 1).nest.position = some ⟨9, 1, 1, 0⟩ ∧
    slotGet (contacting 2).plan.pairs (contacting 2).nest.position = some ⟨9, 1, 2, 0⟩ :=
  ⟨station_settled, rfl, rfl, rfl, rfl⟩

/-- A contact check of a unit that awaits its reading on slot 5, a pair on cell `c` with window 0 of low limit
`low`; `last` says that no later pair stands. -/
def awaitingContact (c : Nat) (low : Int) (last reseat : Bool) : State :=
  { contacting c with
    nest := { (contacting c).nest with contact := .monitor 0, clampTimer := none, reseat := reseat }
    store := ⟨[unit], 8⟩
    plan := { planOf { applyStep with scene := none } with
      windows := [(0, ⟨low, 8000, 0⟩)], pairs := (5, ⟨9, 1, c, 0⟩) :: if last then [] else [(7, ⟨0, 50, 1, 0⟩)] } }

theorem wit_contact_reading : (awaitingContact 1 0 true false).Settled ∧ (awaitingContact 1 0 true false).Unwatched ∧
    (awaitingContact 1 0 true false).nest.contact = .monitor 0 ∧
    0 < max (0 + 0) (awaitingContact 1 0 true false).sense.nextReading ∧
    slotGet (awaitingContact 1 0 true false).plan.pairs 5 = some ⟨9, 1, 1, 0⟩ ∧
    classify ⟨0, 8000, 0⟩ (BackgroundOf (awaitingContact 1 0 true false) 1) = .pass ∧
    classify ⟨1, 8000, 0⟩ (BackgroundOf (awaitingContact 1 1 true false) 1) = .fail ∧
    (awaitingContact 1 0 true false).plan.pairFrom 6 = none ∧
    (awaitingContact 1 0 false false).plan.pairFrom 6 = some (7, ⟨0, 50, 1, 0⟩) ∧
    (awaitingContact 1 0 true false).openRecord.isSome = true ∧
    StartsWithDwell (awaitingContact 1 0 true false) 0 ∧ (awaitingContact 1 1 true true).nest.reseat = true ∧
    (awaitingContact 1 1 true false).nest.clampOpen.level = false ∧
    (awaitingContact 1 1 true false).join.params = some params ∧ (awaitingContact 1 0 true false).stim.overdraw < 2 :=
  ⟨station_settled, ⟨(by intro a h; cases h), by decide, (by intro e h; cases h)⟩, rfl, by decide +kernel, rfl,
    by decide +kernel, by decide +kernel, by decide +kernel, by decide +kernel, by decide +kernel, ⟨rfl, rfl⟩, rfl, rfl, rfl,
    by decide⟩

/-- An acquisition of the step in `testing`. -/
def acq (src : AcqSource) (ph : AcqPhase) : Acquisition :=
  ⟨false, src, 20, 4, 0, 0, ph, 4 * 4095, 4, true, 100, true, 3, 0, 9, false, 100, 0⟩

/-- A MEASURE step that acquires. -/
def acquiring (src : AcqSource) (ph : AcqPhase) : State :=
  { testing measureStep .acquiring with sense := { moving.sense with slot := some (acq src ph) } }

theorem acquiring_settled {src : AcqSource} {ph : AcqPhase} : (acquiring src ph).Settled :=
  ⟨(by intro h; cases h), (by intro h; cases h), (by intro h; cases h), (by intro h; cases h)⟩

theorem wit_sample : (acquiring (.level 2) .sampling).Settled ∧
    ({ acq (.level 2) .sampling with taken := 3 } : Acquisition).taken < (acq (.level 2) .sampling).samples ∧
    vecGet State.reset.sense.flags 3 false = false ∧ State.reset.sense.slot = none :=
  ⟨acquiring_settled, by decide, by decide +kernel, rfl⟩

/-- A unit in TESTING whose cell 0 reads 10,000 mA under a threshold of 50 mA, `n` readings above it so far. -/
def overdrawn (n : Nat) (x : Nat) : State :=
  { testing applyStep .applying with
    sense := { station.sense with samples := #v[List.replicate 16 x, [], [], []] }
    stim := { Stim.reset with overdraw := n } }

/-- The same in CONTACTING, the 10 ms of a pair running. -/
def overdrawnContact : State :=
  { overdrawn 2 4095 with nest := { station.nest with state := .contacting, valve := true, contact := .waiting 400 } }

theorem wit_overdraw_contact : overdrawnContact.Settled ∧ overdrawnContact.Unwatched ∧
    overdrawnContact.sense.slot = none ∧ (∀ k, overdrawnContact.nest.contact ≠ .monitor k) ∧
    overdrawnContact.nest.state = .contacting ∧ overdrawnContact.openRecord.isSome = true :=
  ⟨⟨(by intro h; cases h), (by intro h; cases h), (by intro h; cases h), (by intro h; cases h)⟩,
    ⟨(by intro a h; cases h), (by intro h; cases h), (by intro e h; cases h)⟩, rfl, (fun _ h => by cases h), rfl,
    by decide +kernel⟩

theorem wit_overdraw : (overdrawn 1 4095).Settled ∧ (overdrawn 1 4095).Unwatched ∧ (overdrawn 1 4095).sense.slot = none ∧
    (overdrawn 1 4095).nest.contact = .none ∧ (overdrawn 1 4095).view.window = none ∧
    (overdrawn 1 4095).join.params = some params ∧ (overdrawn 1 4095).nest.state = .testing ∧
    (0 * 50 + 50 < roundHalfUp ((List.replicate 16 4095).sum * 10000) 65520) ∧
    roundHalfUp ((List.replicate 16 0).sum * 10000) 65520 ≤ 0 * 50 + 50 ∧ (overdrawn 2 4095).stim.overdraw = 2 ∧
    (overdrawn 2 4095).openRecord.isSome = true ∧ station.nest.state ≠ .testing :=
  ⟨⟨(by intro h; cases h), (by intro h; cases h), (by intro h; cases h), (by intro h; cases h)⟩,
    ⟨(by intro a h; cases h), (by intro h; cases h), (by intro e h; cases h)⟩, rfl, rfl, rfl, rfl, rfl, by decide +kernel,
    by decide +kernel, rfl, by decide +kernel, by decide⟩

/-- The unit of `overdrawn` in an OPEN window at whose opening 40 units were recorded, W fallen to 0 since. -/
def overdrawnOpen : State :=
  { overdrawn 1 4095 with
    view := { station.view with window := some 9 }
    claims := { station.claims with budget := ⟨0, none, none, false, false, 0, 40⟩ } }

/-- R59: the threshold keeps to the record of the opening, 40 × 50 + 50 mA. -/
theorem test_overdraw_in_a_window : overdrawnOpen.overdrawThreshold = 2050 := by decide +kernel

theorem wit_overdraw_open : overdrawnOpen.Settled ∧ overdrawnOpen.Unwatched ∧ overdrawnOpen.sense.slot = none ∧
    (∀ k, overdrawnOpen.nest.contact ≠ .monitor k) ∧ overdrawnOpen.join.params = some params ∧
    overdrawnOpen.view.window ≠ none ∧ overdrawnOpen.nest.state = .testing ∧
    (40 * 50 + 50 < roundHalfUp ((List.replicate 16 4095).sum * 10000) 65520) :=
  ⟨⟨(by intro h; cases h), (by intro h; cases h), (by intro h; cases h), (by intro h; cases h)⟩,
    ⟨(by intro a h; cases h), (by intro h; cases h), (by intro e h; cases h)⟩, rfl, (fun _ h => by cases h), rfl,
    (by intro h; cases h), rfl, by decide +kernel⟩

theorem wit_level_instant : (acquiring (.level 1) .awaitingReading).sense.slot = some (acq (.level 1) .awaitingReading) ∧
    (acq (.level 1) .awaitingReading).armTick <
      max (0 + 0) (acquiring (.level 1) .awaitingReading).sense.nextReading ∧
    (∀ k, (acquiring (.level 1) .awaitingReading).nest.contact ≠ .monitor k) ∧
    (acquiring (.level 1) .awaitingReading).stim.overdraw < 2 :=
  ⟨rfl, by decide +kernel, (by intro k h; cases h), by decide⟩

/-- A settle count of 2 is not reached by the first reading, so the attempt goes on. -/
theorem goes_on {src : AcqSource} {ph : AcqPhase} {rd : Reading} : GoesOn (acquiring src ph) rd := by
  rintro ⟨-, h⟩; exact absurd (show 2 ≤ 1 from h) (by decide)

theorem wit_acquisition : (acquiring (.level 2) .sampling).Settled ∧
    (acquiring (.level 2) .sampling).sense.slot = some (acq (.level 2) .sampling) ∧
    (acq (.level 2) .sampling).forNest = false ∧ (acquiring (.level 2) .sampling).engine.state = .acquiring ∧
    (acquiring (.level 2) .sampling).stepNow.kind = 1 ∧
    (acquiring (.level 2) .sampling).stepNow.source = .cell 2 0 0 4 ∧
    (acq (.level 2) .sampling).samples ≤ (acq (.level 2) .sampling).taken ∧
    (acq (.freq 4) .gateOpen).phase = .gateOpen ∧ (acq (.duty 7) .awaitingOpen).moved = false ∧
    ({ acq (.duty 7) .awaitingOpen with moved := true } : Acquisition).moved = true ∧
    (acq (.count 5) .counting).phase = .counting :=
  ⟨acquiring_settled, rfl, rfl, rfl, rfl, rfl, by decide, rfl, rfl, rfl, rfl⟩

/-- The Sense Unit after a step that answers a next state. -/
def senseAfter : Host.Outcome State Fault Refusal → Option Sense
  | .next t => some t.sense
  | _ => none

/-- R83, R78: an acquisition takes its own sample, the background the other. -/
theorem test_own_samples :
    ((senseAfter (exec (.analogueSample 0 1 2 ⟨5, 7⟩ ⟨6, 8⟩)
        { acquiring (.level 2) .sampling with
          sense := { station.sense with slot := some { acq (.level 2) .sampling with taken := 3 } } })).map
      (fun x => (x.slot.map (fun a => (a.sum, a.taken)), (vecGet x.samples 2 []).getLast?))) =
      some (some (4 * 4095 + 7, 4), some 5) := by decide +kernel

/-- R87, R108: an edge at the tick at which one COUNT ends and the next is armed is among those of the next. -/
theorem test_count_includes_its_arming_tick :
    ((senseAfter (exec (.countIntervalEnd 0)
        { testing { measureStep with source := .cell 4 3 20 1 } .acquiring with
          sense := { station.sense with slot := some (acq (.count 4) .counting)
                                        edges := #v[⟨320000, 1⟩, .none, .none, .none] } })).map
      (fun x => x.slot.map (fun a => (a.armTick, a.before, a.edges)))) = some (some (320000, 1, 0)) := by decide +kernel

/-- R77, R80: an edge is judged by the selection in force when it comes, here FALLING, and adds to its own tick. -/
theorem test_edges_judged_as_they_come :
    (TickEdges.push ⟨320000, 1⟩ 320000 1 true, TickEdges.push ⟨320000, 1⟩ 320000 1 false,
      TickEdges.push ⟨320000, 1⟩ 320001 1 false) = (⟨320000, 1⟩, ⟨320000, 2⟩, ⟨320001, 1⟩) := by decide +kernel

/-- An edge at the tick before the gate time is over, and one at it. -/
theorem wit_edges : (vecGet (acquiring (.freq 4) .gateOpen).sense.timing 0 (.at false)).endsAt = some 400 ∧
    (vecGet (acquiring (.freq 4) .gateOpen).sense.timing 0 (.at false)).raw = true ∧
    ((acquiring (.freq 4) .gateOpen).plan.cellSetup 4).edge = 0 ∧
    (∀ e ∈ (acquiring (.freq 4) .gateOpen).prompts.entries, e.source ≠ .step) ∧
    max (0 + 320099) 400 < (acq (.freq 4) .gateOpen).openTick + (acq (.freq 4) .gateOpen).gate * 16000 ∧
    (acq (.freq 4) .gateOpen).openTick + (acq (.freq 4) .gateOpen).gate * 16000 ≤ max (0 + 320100) 400 ∧
    max (0 + 319999) 400 < (acq (.count 4) .counting).armTick + (acq (.count 4) .counting).gate * 16000 := by
  decide +kernel

/-- Readings at the limits and the guard band of the window −10..10 with guard band 2. -/
theorem wit_classes : (∃ w : Window, w = ⟨-10, 10, 2⟩ ∧ w.low ≤ w.high ∧ w.low < -9 ∧ (9 : Int) < w.high ∧
    w.low - w.guardBand ≤ -12 ∧ (12 : Int) ≤ w.high + w.guardBand ∧ (-13 : Int) < w.low - w.guardBand ∧
    w.high + w.guardBand < 13) ∧ 0 < 806707 ∧ 0 < 64 :=
  ⟨⟨_, rfl, by decide, by decide, by decide, by decide, by decide, by decide, by decide⟩, by decide, by decide⟩

theorem wit_duty : (acq (.duty 6) .gateOpen).source = .duty 6 ∧ (acq (.duty 6) .gateOpen).openTick < 320100 ∧
    (acq (.duty 6) .gateOpen).high ≤ 320100 - (acq (.duty 6) .gateOpen).openTick ∧
    (acq (.duty 6) .awaitingOpen).timeoutReading true = .value 10000 false false true := by decide +kernel

/-! ## Witnesses: the network, the channels, the engine, prompts and claims -/

/-- Three entries: 0 enabled and PENDING since 5, 3 the same, 7 enabled and due now. -/
def scheduled : State :=
  { station with net := { Net.reset with
      port := .busy 0
      entries := vecMod (vecMod (vecMod Net.reset.entries 0 (fun e => { e with enabled := true, pend := some 5, due := some 9 }))
        3 (fun e => { e with enabled := true, pend := some 5, due := some 9 }))
        23 (fun e => { e with enabled := true, due := some 0 }) } }

theorem wit_schedule : scheduled.join.clockStart = some 0 ∧ scheduled.net.port ≠ .free ∧ scheduled.Settled ∧
    scheduled.Unwatched ∧ (vecGet scheduled.net.entries 23 NetRun.reset).enabled = true ∧
    (vecGet scheduled.net.entries 23 NetRun.reset).due = some scheduled.ms ∧
    (vecGet scheduled.net.entries 0 NetRun.reset).pend = some 5 ∧
    ((scheduled.ms - 5).toNat = (scheduled.ms - 5).toNat ∧ 0 < 3) :=
  ⟨rfl, by decide, station_settled, ⟨(by intro a h; cases h), by decide, (by intro e h; cases h)⟩, by decide +kernel,
    by decide +kernel, by decide +kernel, rfl, by decide⟩

/-- No other enabled entry is PENDING, so entry 0 is the one to hand off. -/
def oneDue : State :=
  { station with net := { Net.reset with
      entries := vecMod Net.reset.entries 0 (fun e => { e with enabled := true, pend := some 5, due := some 9 }) } }

theorem wit_sent : oneDue.Settled ∧ (vecGet oneDue.net.entries 0 NetRun.reset).enabled = true ∧
    (vecGet oneDue.net.entries 0 NetRun.reset).pend = some 5 ∧
    (∀ j, j < 24 → j ≠ 0 → (vecGet oneDue.net.entries j NetRun.reset).pend = none) ∧
    (∀ j, j < 24 → (vecGet station.net.entries j NetRun.reset).pend = none) := by
  refine ⟨station_settled, by decide +kernel, by decide +kernel, ?_, ?_⟩ <;> decide +kernel

/-- A NETFIELD step on capture 15, its acquisition armed. -/
def captureStep : StepRecord := { measureStep with source := .netfield 15 2 3 1 }

/-- The step of `captureStep` that waits for identifier 2,047. -/
def capturing : State :=
  { testing captureStep .acquiring with
    plan := { planOf captureStep with captures := [(15, ⟨2047, 50⟩)] }
    capture := { CaptureTable.reset with arm := some ⟨15, 0, 2, 3, true⟩ } }

theorem wit_capture : capturing.Settled ∧ capturing.plan.state = .sealed ∧ capturing.plan.captureOf 2047 = some 15 ∧
    capturing.plan.captureOf 5 = none ∧ station.plan.state ≠ .sealed ∧
    capturing.capture.arm = some ⟨15, 0, 2, 3, true⟩ ∧ capturing.engine.state = .acquiring ∧
    capturing.stepNow.kind = 1 ∧ capturing.stepNow.source = .netfield 15 2 3 1 ∧
    GoesOn capturing (CaptureArm.read ⟨15, 0, 2, 3, true⟩ (zeros 8)) ∧
    slotGet capturing.plan.captures 15 = some ⟨2047, 50⟩ ∧
    (∀ a, ({ capturing with capture := CaptureTable.reset } : State).capture.arm = some a → a.capture ≠ 15) :=
  ⟨⟨(by intro h; cases h), (by intro h; cases h), (by intro h; cases h), (by intro h; cases h)⟩, rfl, by decide +kernel,
    by decide +kernel, by decide, rfl, rfl, rfl, rfl, (by rintro ⟨-, h⟩; exact absurd (show 2 ≤ 1 from h) (by decide)),
    rfl, (by intro a h; cases h)⟩

theorem wit_fields : (zeros 8).length = 8 ∧ 15 ≤ 15 ∧ 8 ≤ 8 ∧ 4294967295 < 16 ^ 8 ∧
    (NetEntry.checksum ⟨2047, 8, 10, zeros 8, none, some 14⟩ = some (2 * 7) ∧ 7 < (zeros 8).length) := by decide

/-- Fields below, within and above their range, an override at the last byte, an alive nibble beside a checksum byte,
and reads within and beyond a frame. -/
theorem wit_frame_stages : ((0 * 1 / 16 : Nat) : Int) + -100 < 0 ∧ ((4999 * 1 / 16 : Nat) : Int) + -100 < (16 : Int) ^ 3 ∧
    (16 : Int) ^ 1 ≤ ((4999 * 1 / 16 : Nat) : Int) + -100 ∧
    ({ NetRun.reset with override := some (7, 255) } : NetRun).override = some (7, 255) ∧ 7 < (zeros 8).length ∧
    (NetEntry.alive ⟨2047, 8, 10, zeros 8, some 15, some 12⟩ = some 15 ∧ 15 / 2 ≠ 12 / 2) ∧
    (zeros 6).length ≠ 8 ∧ 2 * (zeros 6).length < 12 + 3 ∧ 9 + 3 ≤ 2 * (zeros 6).length ∧
    (CaptureArm.signed ⟨15, 0, 12, 3, true⟩ = true) := by decide

/-- Ramps on channels 5 and 6, a one-shot on channel 15, and channel 1 running. -/
def rampChannels (made : Nat) : Vector Channel 16 :=
  let v := vecMod Stim.reset.channels 6 (fun c => { c with ramp := some ⟨12000, 4999, 4, made, 0⟩ })
  let w := vecMod v 5 (fun c => { c with ramp := some ⟨0, 1, 9, 0, 0⟩ })
  let x := vecMod w 15 (fun c => { c with setpoint := 1, oneShot := some 400 })
  vecMod x 1 (fun c => { c with run := some ⟨12960, 6480, 0, true⟩, active := true })

/-- A scene that is being applied, the ramp on channel 6 after `made` of its 4 updates. -/
def ramping (made : Nat) : State :=
  { testing applyStep .applying with
    plan := { planOf applyStep with channelSetups := [(2, ⟨0, 0, 1, 1, 2, 0⟩)] }
    stim := { Stim.reset with app := .ramping, channels := rampChannels made } }

theorem wit_channels : (ramping 3).Settled ∧ ((ramping 3).channel 6).ramp = some ⟨12000, 4999, 4, 3, 0⟩ ∧
    ((ramping 3).channel 5).ramp.isSome = true ∧ ((ramping 3).channel 15).oneShot = some 400 ∧
    (2 : Nat) + 1 < 4 ∧ ((ramping 2).channel 6).ramp = some ⟨12000, 4999, 4, 2, 0⟩ :=
  ⟨⟨(by intro h; cases h), (by intro h; cases h), (by intro h; cases h), (by intro h; cases h)⟩, by decide +kernel,
    by decide +kernel, by decide +kernel, by decide, by decide +kernel⟩

theorem wit_periods : (ramping 3).Settled ∧ ((ramping 3).plan.channelSetup 1).source ≠ 1 ∧
    ((ramping 3).channel 1).run = some ⟨12960, 6480, 0, true⟩ ∧ ((ramping 3).channel 1).pend = .none ∧
    ((ramping 3).plan.channelSetup 2).source = 1 ∧ ((ramping 3).plan.channelSetup 2).derivedFrom = 1 :=
  ⟨wit_channels.1, by decide +kernel, by decide +kernel, by decide +kernel, by decide +kernel, by decide +kernel⟩

/-- A scene whose last ramp, on channel 6, has made all its updates but one. -/
def lastRamp : State :=
  { ramping 3 with stim := { (ramping 3).stim with channels := vecMod (rampChannels 3) 5 (fun c => { c with ramp := none }) } }

theorem wit_last_ramp : lastRamp.Settled ∧ (lastRamp.channel 6).ramp = some ⟨12000, 4999, 4, 3, 0⟩ ∧
    (∀ o, o < 16 → o ≠ 6 → (lastRamp.channel o).ramp = none) ∧ lastRamp.stim.app = .ramping ∧
    lastRamp.stim.request = none ∧ lastRamp.engine.state = .applying ∧ lastRamp.stepNow.dwell = some 0 ∧
    lastRamp.view.window = none ∧
    (chan (vecMod lastRamp.stim.channels 1 (fun c => { c with pend := .stop })) 1).pend = .stop := by
  refine ⟨wit_channels.1, ?_⟩; decide +kernel

/-- A step in its dwell. -/
def dwelling (r : StepRecord) : State :=
  { testing r .dwell with engine := ⟨.dwell, 0, 1, 0, none, some 400, none⟩ }

theorem testing_settled {r : StepRecord} {st : EngineState} (h1 : st ≠ .awaitResource) (h2 : st ≠ .ending) :
    (testing r st).Settled := ⟨(by intro h; cases h), (by intro h; cases h), h1, h2⟩

/-- A step that acquires with its settle timer running. -/
def settling (last : Option (Reading × ReadingClass)) (attempt : Nat) : State :=
  { testing measureStep .acquiring with engine := ⟨.acquiring, 0, attempt, 0, last, none, some 400⟩ }

theorem wit_dwell_settle : (dwelling measureStep).Settled ∧ (dwelling measureStep).engine.dwell = some 400 ∧
    (dwelling measureStep).stepNow.kind = 1 ∧ (dwelling measureStep).stepNow.source = .cell 2 0 0 4 ∧
    (dwelling applyStep).stepNow.kind = 0 ∧ (dwelling applyStep).net.anyLate = false ∧
    (dwelling applyStep).plan.stepCount ≤ (dwelling applyStep).engine.step + 1 ∧
    (dwelling applyStep).openRecord = some unit ∧
    (settling (some (.noSignal, .marginal)) 1).engine.settle = some 400 ∧
    (settling (some (.noSignal, .marginal)) 1).stepNow.kind = 1 ∧
    (settling (some (.noSignal, .marginal)) 1).engine.attempt < 1 + measureStep.retest ∧
    measureStep.scene = none ∧ measureStep.dwell = some 0 ∧ (settling none 2).engine.last = none ∧
    (settling none 2).openRecord = some unit :=
  ⟨⟨(by intro h; cases h), (by intro h; cases h), (by intro h; cases h), (by intro h; cases h)⟩, rfl, rfl, rfl, rfl,
    by decide +kernel, by decide, by decide +kernel, rfl, rfl, by decide, rfl, rfl, rfl, by decide +kernel⟩

/-- An APPLY step in its dwell, followed by a step that applies scene `sc`: 1 (draw 40, switch 9 ON), 2 (draw 101),
3 (draw 0, an empty REPLACE), 4 (a ramp on channel 0), 5 (network entry 23 enabled) or 0; station 1 holds 60 of 100
units. -/
def applying (sc : Nat) (rep : Bool) (held : Nat) : State :=
  { dwelling { applyStep with scene := none } with
    plan := { planOf applyStep with
      stepCount := 2
      heads := [(1, ⟨40, false, 1, false⟩), (2, ⟨101, false, 1, false⟩), (3, ⟨0, false, 0, false⟩),
                (4, ⟨0, false, 1, false⟩), (5, ⟨0, false, 1, false⟩)]
      items := [(16, .channel 9 1 none 5000 0), (64, .channel 0 500 (some 17) 5000 0), (80, .network 23 0 false false none)]
      steps := [(0, { applyStep with scene := none }), (1, { applyStep with scene := some (sc, rep) })] }
    net := { Net.reset with port := .busy 0 }
    view := { station.view with held := (List.replicate 24 0).set 0 held } }

theorem wit_scenes : (applying 1 false 60).Settled ∧ (applying 1 false 60).engine.dwell = some 400 ∧
    (applying 1 false 60).stepNow.kind = 0 ∧ (applying 1 false 60).net.anyLate = false ∧
    (applying 1 false 60).engine.step + 1 < (applying 1 false 60).plan.stepCount ∧
    (applying 1 false 60).openRecord = some unit ∧ (applying 1 false 60).nest.state = .testing ∧
    ((applying 1 false 60).plan.step 1).scene = some (1, false) ∧ ((applying 1 false 60).plan.step 1).dwell = some 0 ∧
    (applying 1 false 60).view.total < (applying 1 false 60).plan.draw 2 ∧ (applying 1 false 60).plan.draw 1 = 40 ∧
    (applying 3 true 60).plan.itemsOf 3 = [] ∧ (applying 1 false 60).plan.itemsOf 1 = [.channel 9 1 none 5000 0] ∧
    (applying 4 false 60).plan.itemsOf 4 = [.channel 0 500 (some 17) 5000 0] ∧
    (applying 5 false 60).plan.itemsOf 5 = [.network 23 0 false false none] ∧ (applying 5 false 60).net.port ≠ .free ∧
    (applying 1 false 39).claims.silent = false ∧ claimEntry (applying 1 false 39).rbi.queue .budget = none ∧
    (applying 1 false 39).entryNow = none ∧ (applying 1 false 39).join.params = some params ∧
    ({ applying 1 false 39 with view := { station.view with window := some 9 } } : State).view.window ≠ none :=
  ⟨⟨(by intro h; cases h), (by intro h; cases h), (by intro h; cases h), (by intro h; cases h)⟩, rfl, rfl,
    by decide +kernel, by decide, by decide +kernel, rfl, rfl, rfl, by decide, by decide, rfl, by decide +kernel,
    by decide +kernel, by decide +kernel, by decide, rfl, rfl, rfl, rfl, by decide⟩

/-- A JUDGE step with a CONFIRM prompt. -/
def judgeStep : StepRecord := ⟨4, none, none, some 0, 0, 1, none, none, 5, false, .prompt 0 311 0 0⟩

/-- A prompt POSTED under tag 13, of the step or of the nest. -/
def posted (src : PromptSource) (kind : Nat) (auto : AutoComplete) : State :=
  { testing judgeStep .awaitAnswer with
    prompts := ⟨[⟨src, kind, 311, none, some 8, auto, .posted 13⟩], some 400, none, 13⟩ }

theorem wit_prompts : (posted .step 0 .none).Settled ∧ (posted .step 0 .none).prompts.timer = some 400 ∧
    (posted .step 0 .none).postedEntry = some (⟨.step, 0, 311, none, some 8, .none, .posted 13⟩, 13) ∧
    (posted .step 0 .none).stepNow.kind = 4 ∧ (posted .step 0 .none).net.anyLate = false ∧
    (posted .step 0 .none).plan.stepCount ≤ (posted .step 0 .none).engine.step + 1 ∧
    (posted .step 0 .none).openRecord = some unit ∧
    Takes (posted .step 0 .none) 0 (deliveryFrame 14 (sent 29 1 [13, 0, 0, 0, 0, 1])) ∧
    (sent 29 1 []).src.toNat = 29 ∧ (sent 29 1 []).dst.toNat = 1 ∧ (0 : Byte).toNat ≤ 1 ∧
    (∀ e, (posted .step 0 .none).postedEntry ≠ some (e, 12)) :=
  ⟨testing_settled (r := judgeStep) (by decide) (by decide), rfl, rfl, rfl, by decide +kernel, by decide, by decide +kernel,
    takes_other rfl (by decide), by decide, by decide, by decide,
    (by intro e h; have h' := congrArg (fun x => x.map (·.2)) h; revert h'; simp [State.postedEntry, posted])⟩

/-- Answers at the limits of each kind, and a VALUE of −1 that the window of the step fails. -/
theorem wit_answers : Fits ⟨.step, 0, 311, none, some 8, .none, .posted 13⟩ 0 0 0 0 1 ∧
    ¬Fits ⟨.step, 0, 311, none, some 8, .none, .posted 13⟩ 0 0 0 0 2 ∧
    ¬Fits ⟨.step, 0, 311, none, some 8, .none, .posted 13⟩ 1 0 0 0 1 ∧
    Fits ⟨.step, 1, 311, none, some 8, .none, .posted 13⟩ 1 255 255 255 255 ∧
    Fits ⟨.step, 2, 311, none, some 8, .none, .posted 13⟩ 2 0 0 0 1 ∧
    ¬Fits ⟨.nest, 2, 311, none, some 8, .none, .posted 13⟩ 2 0 0 0 0 ∧ signedBytes 255 255 255 255 = -1 ∧
    classNow (posted .step 1 .none) (.value (-1) false false false) = .fail ∧
    classNow { posted .step 1 .none with plan := planOf { judgeStep with window := some 0 } }
      (.value 8000 false false false) = .pass := by
  refine ⟨?_, ?_, ?_, ?_, ?_, ?_, ?_, ?_, ?_⟩ <;> (try unfold Fits) <;> decide +kernel

/-- The REMOVE prompt, and the FAULT prompt of a nest in FAULT. -/
theorem wit_nest_prompts : (posted .nest 2 .partRemoved).postedEntry =
      some (⟨.nest, 2, 311, none, some 8, .partRemoved, .posted 13⟩, 13) ∧ (posted .nest 2 .partRemoved).Settled ∧
    (posted .nest 2 .none).postedEntry = some (⟨.nest, 2, 311, none, some 8, .none, .posted 13⟩, 13) ∧
    ({ posted .nest 2 .none with nest := (faulted false).nest } : State).nest.state = .fault :=
  ⟨rfl, testing_settled (r := judgeStep) (by decide) (by decide), rfl, rfl⟩

/-- A LIGHT step on spot 15 with exposure 7. -/
def lightStep : StepRecord := { measureStep with kind := 3, source := .spot 15 7 }

/-- A unit whose claims wait until tick 400. -/
def waiting (r : StepRecord) (st : EngineState) : State :=
  { testing r st with claims := { station.claims with
      panel := ⟨true, none, some 400, false, false, false⟩, gantry := ⟨true, none, some 400, false, false, false⟩,
      budget := ⟨40, none, some 400, false, false, 0, 0⟩ } }

theorem wit_waits : (waiting judgeStep .awaitAnswer).openRecord.isSome = true ∧
    (waiting judgeStep .awaitAnswer).claims.panel.wait = some 400 ∧
    (({ waiting judgeStep .awaitAnswer with
        prompts := ⟨[⟨.step, 0, 311, none, none, .none, .claiming none⟩], none, none, 0⟩ } :
        State).prompts.entries.find? (fun x => x.state == .claiming none)) =
      some ⟨.step, 0, 311, none, none, .none, .claiming none⟩ ∧
    (waiting lightStep .awaitResource).claims.gantry.wait = some 400 ∧
    (waiting applyStep .applying).claims.budget.wait = some 400 ∧
    ({ waiting applyStep .applying with stim := { Stim.reset with app := .awaitingBudget } } : State).stim.app =
      .awaitingBudget := by
  refine ⟨by decide +kernel, rfl, rfl, rfl, rfl, rfl⟩

/-- A wait for budget in an OPEN window, 40 units restored, a rejected CLAIM waiting for its retry timer. -/
def waitingOpen : State :=
  { waiting applyStep .applying with
    stim := { Stim.reset with app := .awaitingBudget, request := some (1, false) }
    view := { station.view with window := some 9, held := (List.replicate 24 0).set 0 40 }
    claims := { station.claims with budget := ⟨60, some 410, some 400, false, false, 40, 40⟩ } }

theorem wit_waits_open : waitingOpen.openRecord.isSome = true ∧ waitingOpen.claims.budget.wait = some 400 ∧
    waitingOpen.stim.app = .awaitingBudget ∧ waitingOpen.engine.state = .applying ∧
    waitingOpen.view.window = some 9 ∧ waitingOpen.claims.silent = false ∧
    claimEntry waitingOpen.rbi.queue .budget = none ∧ 0 < waitingOpen.heldNow := by
  refine ⟨by decide +kernel, rfl, rfl, rfl, rfl, rfl, rfl, by decide +kernel⟩

/-- A retry timer on every resource, each claim still due. -/
def retrying : State :=
  { station with claims := { station.claims with
      panel := ⟨true, some 400, none, false, false, false⟩, gantry := ⟨true, some 400, none, false, false, false⟩,
      budget := ⟨40, some 400, none, false, false, 0, 0⟩ } }

theorem wit_retries : retrying.Settled ∧ retrying.claims.silent = false ∧ retrying.view.window = none ∧
    retrying.claims.panel.retry = some 400 ∧ retrying.claims.panel.want = true ∧ retrying.shows .panel = false ∧
    claimEntry retrying.rbi.queue .panel = none ∧ retrying.shows .gantry = false ∧
    retrying.heldNow < retrying.claims.budget.want ∧ retrying.entryNow = none ∧
    claimEntry retrying.rbi.queue .budget = none :=
  ⟨station_settled, rfl, rfl, rfl, rfl, by decide +kernel, rfl, by decide +kernel, by decide +kernel, rfl, rfl⟩

/-- A retry timer on every resource, each held and no longer wanted; the window as given. -/
def returning (window : Option Nat) : State :=
  { retrying with
    view := { station.view with panel := ⟨some 1, []⟩, gantry := ⟨none, [1]⟩, held := (List.replicate 24 0).set 0 50,
                                window := window }
    claims := { retrying.claims with panel := ⟨false, some 400, none, false, false, false⟩,
                                     gantry := ⟨false, some 400, none, false, false, false⟩ } }

theorem wit_returns : (returning none).Settled ∧ (returning none).shows .panel = true ∧
    (returning none).shows .gantry = true ∧ (returning none).claims.gantry.want = false ∧
    (returning none).claims.budget.want < (returning none).heldNow ∧
    claimEntry (returning none).rbi.queue .budget = none ∧ (returning (some 9)).view.window ≠ none ∧
    (returning (some 9)).claims.budget.retry = some 400 ∧
    ({ retrying with view := { station.view with window := some 9 } } : State).claims.budget.record <
      retrying.claims.budget.want ∧
    ({ retrying with view := { station.view with window := some 9, budgetList := [(1, 5)] } } : State).entryNow.isSome = true :=
  ⟨station_settled, by decide +kernel, by decide +kernel, rfl, by decide +kernel, rfl, by decide, rfl, by decide,
    by decide +kernel⟩

/-- A scene of draw 40 waits for budget: station 1 stands at the head of the list, station 3 holds 70 of 100. -/
def granting : State :=
  { applying 1 false 0 with
    engine := ⟨.applying, 1, 1, 0, none, none, none⟩
    stim := { Stim.reset with app := .awaitingBudget, request := some (1, false) }
    view := { station.view with held := (List.replicate 24 0).set 2 70, budgetList := [(1, 40), (8, 60)] }
    claims := { station.claims with budget := ⟨40, none, some 400, false, false, 0, 0⟩ } }

theorem wit_grant : Takes granting 0 (deliveryFrame 9 (sent 3 0 [2, 0, 10])) ∧ FromStation (sent 3 0 [2, 0, 10]) ∧
    granting.view.held.length = 24 ∧ granting.view.active = true ∧ granting.view.window = none ∧
    (∀ x ∈ [(8, 60)], x.1 ≠ granting.rbi.address ∧ 1 ≤ x.1 ∧ x.1 ≤ 24) ∧ granting.claims.silent = false ∧
    granting.claims.budget.reported = false ∧ granting.stepNow.dwell = some 0 ∧
    granting.claims.budget.want = granting.view.held.getD 0 0 + 40 ∧
    granting.plan.draw 1 = granting.view.held.getD 0 0 + 40 ∧
    40 ≤ granting.view.total - (granting.view.held.set 2 (granting.view.held.getD 2 0 - twoBytes 0 10)).sum :=
  ⟨takes_other rfl (by decide), from_station (by decide), rfl, rfl, rfl, by decide, rfl, rfl, rfl, rfl, rfl,
    by decide +kernel⟩

/-- A measurement OUTSTANDING under tag 5, the station holding the gantry. -/
def measuring : State :=
  { testing lightStep .awaitResult with
    view := { station.view with gantry := ⟨some 1, []⟩ }
    claims := { station.claims with gantry := ⟨true, none, none, false, true, false⟩, request := .outstanding 5 400 } }

theorem wit_measure : measuring.Settled ∧ Takes measuring 0 (deliveryFrame 17 (sent 28 1 [5, 0, 255, 255, 255])) ∧
    (sent 28 1 []).src.toNat = 28 ∧ (sent 28 1 []).dst.toNat = measuring.rbi.address ∧ measuring.rbi.address ≤ 24 ∧
    measuring.claims.request = .outstanding 5 400 ∧ measuring.engine.state = .awaitResult ∧
    measuring.stepNow.kind = 3 ∧ measuring.stepNow.source = .spot 15 7 ∧ measuring.view.window = none ∧
    measuring.holds .gantry = true ∧ GoesOn measuring (.value 16777215 false false false) ∧
    txCount measuring.rbi.queue .gantry = 0 ∧ measuring.openRecord.isSome = true :=
  ⟨⟨(by intro h; cases h), (by intro h; cases h), (by intro h; cases h), (by intro h; cases h)⟩,
    takes_other rfl (by decide), by decide, by decide, by decide, rfl, rfl, rfl, rfl, rfl, by decide +kernel,
    (by rintro ⟨-, h⟩; exact absurd (show 2 ≤ 1 from h) (by decide)), rfl, by decide +kernel⟩

/-- A PROMPT POST of tag 13 on the line, its entry granted. -/
def posting : State :=
  { sending (.promptPost 13 0 311 none) with
    prompts := ⟨[⟨.step, 0, 311, none, some 8, .none, .claiming (some 13)⟩], none, none, 13⟩ }

theorem wit_own_requests : posting.Settled ∧
    OwnDelivery posting (.promptPost 13 0 311 none) 12 (⟨2, 1, 29, (TxBody.promptPost 13 0 311 none).payload 1⟩) ∧
    posting.prompts.entries.find? (fun x => x.state == .claiming (some 13)) =
      some ⟨.step, 0, 311, none, some 8, .none, .claiming (some 13)⟩ ∧
    OwnDelivery (sending (.promptWithdraw 13)) (.promptWithdraw 13) 13 ⟨2, 1, 29, [13]⟩ ∧
    OwnDelivery (sending (.measureRequest 5 15 7)) (.measureRequest 5 15 7) 16 ⟨2, 1, 28, [5, 15, 7]⟩ ∧
    (sending (.measureRequest 5 15 7)).join.params = some params ∧ (sent 9 29 []).src.toNat ≠ station.rbi.address :=
  ⟨station_settled, ⟨⟨0, rfl⟩, rfl⟩, rfl, ⟨⟨0, rfl⟩, rfl⟩, ⟨⟨0, rfl⟩, rfl⟩, rfl, by decide⟩

end Sys2Proof.Tests
end

/-! ## Cold reset: the reset values of the blocks, and the invariants right after it -/

namespace Sys2Proof.Machine

theorem eq_of_mem_toList_replicate {α : Type} {n : Nat} {a x : α} (h : x ∈ (Vector.replicate n a).toList) : x = a := by
  rw [Vector.toList_replicate] at h
  exact List.eq_of_mem_replicate h

theorem Channel.reset_atRest : Channel.reset.AtRest := ⟨rfl, rfl, rfl, rfl, rfl, rfl, rfl, rfl, rfl⟩

/-- A station with the cold-reset values of the Stimulus Unit and of the network entries has its stimulus at rest. -/
theorem State.stimulusAtRest_of_reset {s : State} (hm : s.stim = Stim.reset) (hn : s.net.entries = Net.reset.entries) :
    s.StimulusAtRest := by
  refine ⟨fun ch h => ?_, by rw [hm]; rfl, by rw [hm]; rfl, by rw [hm]; rfl, fun e h => ?_⟩
  · rw [hm] at h
    rw [eq_of_mem_toList_replicate h]
    exact Channel.reset_atRest
  · rw [hn] at h
    rw [eq_of_mem_toList_replicate h]
    rfl

theorem State.cold_netEntries (p : ResetPins) (revision : Byte) (pending : List Instr) :
    (State.cold p revision pending).net.entries = Net.reset.entries := by
  dsimp only [State.cold]
  split <;> rfl

/-- Straps 1..24 become the address and start the self-check with the loopback request (R128, R184). -/
theorem State.cold_of_address {p : ResetPins} (revision : Byte) (pending : List Instr) (lo : 1 ≤ p.straps.toNat)
    (hi : p.straps.toNat ≤ 24) :
    let t := State.cold p revision pending
    t.rbi.address = p.straps.toNat ∧ t.rbi.bus = .settling ∧ t.join.state = .selfCheck ∧
      t.net.port = .loopback ∧ t.net.request = some .loopback := by
  simp [State.cold, lo, hi]

/-- Straps 0 and 25..31 leave the station SILENT in BAD ADDRESS (R128, R183). -/
theorem State.cold_of_badAddress {p : ResetPins} (revision : Byte) (pending : List Instr)
    (h : p.straps.toNat = 0 ∨ 24 < p.straps.toNat) :
    let t := State.cold p revision pending
    t.rbi.bus = .silent ∧ t.join.state = .badAddress ∧ t.net.port = .free := by
  have bad : (decide (1 ≤ p.straps.toNat) && decide (p.straps.toNat ≤ 24)) = false := by
    simp only [Bool.and_eq_false_iff, decide_eq_false_iff_not]
    omega
  simp [State.cold, bad, Net.reset]

theorem Sense.reset_timing (p : ResetPins) {i : Nat} (h : i < 4) :
    vecGet (Sense.reset p).timing i (.at false) = .at (p.timing.getLsbD i) := by
  have cell : i = 0 ∨ i = 1 ∨ i = 2 ∨ i = 3 := by omega
  rcases cell with rfl | rfl | rfl | rfl <;> rfl

theorem Sense.reset_logic (p : ResetPins) {i : Nat} (h : i < 4) :
    vecGet (Sense.reset p).logic i (.at false) = .at (p.logic.getLsbD i) := by
  have cell : i = 0 ∨ i = 1 ∨ i = 2 ∨ i = 3 := by omega
  rcases cell with rfl | rfl | rfl | rfl <;> rfl

/-- Settles O15: of the blocks of `State.cold` only the bus, the join machine and the frame port depend on the straps. -/
theorem coldResetPutsEveryBlockBack : Obligations.ColdResetPutsEveryBlockBack := by
  intro s p
  refine ⟨State.cold p s.pins.revision s.pending, rfl, State.cold_of_address _ _, State.cold_of_badAddress _ _,
    rfl, rfl, ⟨rfl, rfl, rfl, rfl, rfl, rfl, rfl, rfl, rfl⟩, ?claims, ⟨rfl, rfl, rfl, rfl, rfl, rfl, rfl, rfl, rfl⟩,
    ⟨rfl, rfl, rfl, rfl, rfl, rfl, rfl, rfl, rfl, rfl, rfl, rfl, rfl, rfl⟩,
    ⟨rfl, rfl, rfl, rfl, rfl, rfl, rfl, rfl, rfl, rfl, rfl, rfl, rfl, rfl, rfl, rfl⟩,
    State.stimulusAtRest_of_reset rfl (State.cold_netEntries _ _ _), rfl, ?channels, ?entries, ?overrange,
    fun e h => eq_of_mem_toList_replicate h, rfl, rfl, rfl, rfl,
    fun i h => ⟨Sense.reset_timing p h, Sense.reset_logic p h⟩, rfl, rfl, rfl, rfl, rfl,
    rfl, rfl, rfl, rfl, rfl, rfl, rfl, rfl⟩
  case claims => rintro x (rfl | rfl) <;> exact ⟨rfl, rfl, rfl, rfl, rfl⟩
  case channels =>
    intro ch h
    rw [eq_of_mem_toList_replicate h]
    rfl
  case entries =>
    intro e h
    rw [State.cold_netEntries] at h
    exact eq_of_mem_toList_replicate h
  case overrange =>
    dsimp only [State.cold]
    split <;> rfl

theorem View.reset_sound : View.reset.Sound :=
  ⟨⟨.nil, fun _ h => nomatch h⟩, ⟨.nil, fun _ h => nomatch h⟩, .nil, fun _ h => (nomatch h), rfl, Nat.le_refl 0⟩

theorem State.reset_unjoined : State.reset.Unjoined := ⟨rfl, rfl, rfl, fun ⟨_, h, _⟩ => nomatch h⟩

theorem Nest.reset_valveSound (p : ResetPins) : (Nest.reset p).ValveSound :=
  ⟨fun h => absurd rfl h, fun _ => rfl, fun _ _ => rfl⟩

theorem State.reset_storesSound : State.reset.StoresSound :=
  ⟨⟨.nil, fun _ => Nat.zero_le _⟩, Nat.zero_le _, ⟨Nat.zero_le _, fun _ h => nomatch h⟩, rfl⟩

/-- Settles O16, one invariant after the other at the reset values of its blocks. -/
theorem resetIsSafe : Obligations.ResetIsSafe :=
  ⟨⟨View.reset_sound, fun _ => State.reset_unjoined⟩, fun _ => State.stimulusAtRest_of_reset rfl rfl,
    ⟨Nest.reset_valveSound _, fun _ h => nomatch h⟩, State.reset_storesSound⟩

end Sys2Proof.Machine

/-! ## Validation: what the checks of R19 let pass -/

namespace Sys2Proof.Machine

/-- A list of checks has no failing one exactly when each of them passes. -/
theorem firstFailing_eq_none {l : List Check} : firstFailing l = none ↔ ∀ c ∈ l, c.2.1 = false := by
  simp [firstFailing]

/-- The visit of a kind finds nothing exactly when every check of every record of the kind passes (R19). -/
theorem visit_eq_none {α : Type} {l : Slots α} {f : Nat → α → List Check} :
    visit l f = none ↔ ∀ e ∈ l, ∀ c ∈ f e.1 e.2, c.2.1 = false := by
  simp only [visit, List.findSome?_eq_none_iff, firstFailing_eq_none]

theorem outside_eq_false {lo hi x : Nat} : outside lo hi x = false ↔ lo ≤ x ∧ x ≤ hi := by
  simp [outside]

/-- What the plan-wide checks 20 to 23 let pass (R19). -/
theorem Plan.wideChecks_pass {p : Plan} {n r : Nat} (h : firstFailing (p.wideChecks n r) = none) :
    r = p.written ∧ (1 ≤ n ∧ n ≤ 96) ∧ (∀ k, k < n → slotHas p.steps k = true) ∧ ∀ e ∈ p.steps, e.1 < n := by
  simpa [firstFailing_eq_none, Plan.wideChecks, outside_eq_false] using h

theorem checkWindow_pass {k : Nat} {w : Window} (h : ∀ c ∈ checkWindow k w, c.2.1 = false) : w.low ≤ w.high := by
  simp [checkWindow] at h
  exact h.2

theorem checkNetEntry_pass {k : Nat} {e : NetEntry} (h : ∀ c ∈ checkNetEntry k e, c.2.1 = false) :
    e.identifier ≤ 2047 ∧ e.length ≤ 8 ∧ 5 ≤ e.period ∧ e.period ≤ 2000 := by
  have ranges := h _ List.mem_cons_self
  simp only [Bool.or_eq_false_iff, decide_eq_false_iff_not, Nat.not_lt, outside_eq_false] at ranges
  obtain ⟨⟨⟨⟨identifier, length⟩, period⟩, -⟩, -⟩ := ranges
  exact ⟨identifier, length, period⟩

theorem checkStep_pass {p : Plan} {k : Nat} {r : StepRecord} (h : ∀ c ∈ checkStep p k r, c.2.1 = false) :
    r.kind ≤ 4 ∧ (1 ≤ r.count ∧ r.count ≤ 15) ∧ r.retest ≤ 3 ∧ (1 ≤ r.failCode ∧ r.failCode ≤ 899) ∧
    ∀ sc rep, r.scene = some (sc, rep) → sc = 0 ∨ slotHas p.heads sc = true := by
  have ranges := h _ List.mem_cons_self
  have references := h _ (List.mem_cons_of_mem _ List.mem_cons_self)
  simp only [Bool.or_eq_false_iff, decide_eq_false_iff_not, Nat.not_lt, outside_eq_false] at ranges references
  obtain ⟨⟨⟨⟨⟨⟨kind, -⟩, count⟩, retest⟩, failCode⟩, -⟩, -⟩ := ranges
  obtain ⟨⟨⟨⟨scene, -⟩, -⟩, -⟩, -⟩ := references
  refine ⟨kind, count, retest, failCode, fun sc rep hs => ?_⟩
  by_cases zero : sc = 0
  · exact .inl zero
  · exact .inr (by simpa [hs, zero] using scene)

/-- Settles O34: the walk finds nothing only when every check of every visited record passes. -/
theorem sealedPlansAreWhole : Obligations.SealedPlansAreWhole := by
  intro p n r h
  simp only [Plan.validate, Option.orElse_eq_orElse, Option.orElse_eq_or, Option.or_eq_none_iff, visit_eq_none]
    at h
  obtain ⟨wide, -, -, -, windows, -, -, entries, -, -, -, steps⟩ := h
  obtain ⟨records, ⟨one, most⟩, filled, below⟩ := Plan.wideChecks_pass wide
  refine ⟨records, one, most, filled, below, fun e he => checkWindow_pass (windows e he),
    fun e he => checkNetEntry_pass (entries e he), fun e he => ?_⟩
  obtain ⟨kind, ⟨c1, c2⟩, retest, ⟨f1, f2⟩, scene⟩ := checkStep_pass (steps e he)
  exact ⟨kind, c1, c2, retest, f1, f2, scene⟩

end Sys2Proof.Machine

/-! ## The transmit queue at the end of an event: the frames of the Command Handler and of the join machine stay in it,
whatever the inner blocks do. One lemma per operation, as for `State.outer` -/

namespace Sys2Proof.Machine

/-- A frame of the Command Handler or of the join machine: no reaction of an inner block sends or withdraws one. -/
def TxBody.isOuter (b : TxBody) : Bool := b.producer == .handler || b.producer == .joinView

/-- The frames of the Command Handler and of the join machine in the transmit queue, in their order. -/
def Rbi.outerFrames (r : Rbi) : List TxBody := (r.queue.map (·.body)).filter TxBody.isOuter

theorem Rbi.mem_outerFrames {r : Rbi} {b : TxBody} :
    b ∈ r.outerFrames ↔ (∃ e ∈ r.queue, e.body = b) ∧ b.isOuter = true := by
  simp [Rbi.outerFrames, List.mem_filter]

@[simp] theorem TxBody.isOuter_claim (r : Resource) (a : Nat) : (TxBody.claim r a).isOuter = false := rfl
@[simp] theorem TxBody.isOuter_release (r : Resource) (a : Nat) : (TxBody.release r a).isOuter = false := rfl
@[simp] theorem TxBody.isOuter_holding (r : Resource) (a : Nat) : (TxBody.holding r a).isOuter = false := rfl

/-- The entries of a queue into which a frame has been placed are those before it and its own. -/
theorem mem_txInsert {x e : TxEntry} {q : List TxEntry} : x ∈ txInsert e q ↔ x = e ∨ x ∈ q := by
  induction q with
  | nil => simp [txInsert]
  | cons y ys ih =>
    unfold txInsert
    split
    · rw [List.mem_cons, ih, List.mem_cons, or_left_comm]
    · exact List.mem_cons

/-- A frame that a filter of the bodies leaves out can be placed without being seen through it. -/
theorem filter_txInsert_of_not {p : TxBody → Bool} {e : TxEntry} (h : p e.body = false) (q : List TxEntry) :
    ((txInsert e q).map (·.body)).filter p = (q.map (·.body)).filter p := by
  induction q with
  | nil => simp [txInsert, h]
  | cons y ys ih =>
    unfold txInsert
    split <;> simp [List.filter_cons, h, ih]

theorem State.send_outerFrames (s : State) (b : TxBody) (h : b.isOuter = false) :
    (s.send b).rbi.outerFrames = s.rbi.outerFrames := by
  unfold State.send
  split
  · exact filter_txInsert_of_not (e := ⟨b, false⟩) h _
  · rfl

theorem State.withdraw_outerFrames {p : TxBody → Bool} (h : ∀ b, p b = true → b.isOuter = false) (s : State) :
    (s.withdraw p).rbi.outerFrames = s.rbi.outerFrames := by
  simp only [State.withdraw, State.modRbi_rbi, Rbi.outerFrames]
  induction s.rbi.queue with
  | nil => rfl
  | cons e q ih =>
    by_cases hk : (e.onLine || !p e.body) = true
    · simp [List.filter_cons, hk, ih]
    · have hp : p e.body = true := by simp at hk; exact hk.2
      simp [hk, ih, h _ hp]

/-! ### Operations that leave the transmit queue and the bus alone -/

@[simp] theorem State.clearLate_rbi (s : State) : s.clearLate.rbi = s.rbi := rfl
@[simp] theorem State.clearOverrange_rbi (s : State) : s.clearOverrange.rbi = s.rbi := rfl
@[simp] theorem State.emptySlot_rbi (s : State) : s.emptySlot.rbi = s.rbi := rfl
@[simp] theorem State.clearClamped_rbi (s : State) : s.clearClamped.rbi = s.rbi := rfl
@[simp] theorem State.settleBudget_rbi (s : State) (w : Nat) : (s.settleBudget w).rbi = s.rbi := rfl
@[simp] theorem State.needBudget_rbi (s : State) (d : Nat) : (s.needBudget d).rbi = s.rbi := rfl
@[simp] theorem State.safeOutputs_rbi (s : State) : s.safeOutputs.rbi = s.rbi := rfl
@[simp] theorem State.lowerRecords_rbi (s : State) : s.lowerRecords.rbi = s.rbi := rfl
@[simp] theorem State.wantGantry_rbi (s : State) : s.wantGantry.rbi = s.rbi := rfl
@[simp] theorem State.syncPanel_rbi (s : State) : s.syncPanel.rbi = s.rbi := rfl
@[simp] theorem State.handOver_rbi (s : State) (e : PromptEntry) : (s.handOver e).rbi = s.rbi := rfl
@[simp] theorem State.removeEntry_rbi (s : State) (src : PromptSource) : (s.removeEntry src).rbi = s.rbi := rfl
@[simp] theorem State.setClampTimer_rbi (s : State) (t : Option Nat) : (s.setClampTimer t).rbi = s.rbi := rfl
@[simp] theorem State.appendResult_rbi (s : State) (r : StepResult) : (s.appendResult r).rbi = s.rbi := rfl
@[simp] theorem State.closeRecord_rbi (s : State) (v : Verdict) (code : Option Nat) : (s.closeRecord v code).rbi = s.rbi := rfl
@[simp] theorem State.engineEnding_rbi (s : State) : s.engineEnding.rbi = s.rbi := rfl
@[simp] theorem State.startSettle_rbi (s : State) (r : StepRecord) : (s.startSettle r).rbi = s.rbi := rfl

@[simp] theorem State.arbiter_rbi (s : State) : s.arbiter.rbi = s.rbi := by
  unfold State.arbiter
  split <;> rfl

@[simp] theorem State.evaluateList_rbi (n : Nat) (l : Slots Condition) (s : State) (evs : List (Nat × Bool)) :
    (State.evaluateList n l s evs).1.rbi = s.rbi := by
  induction l generalizing s evs with
  | nil => rfl
  | cons e l ih => unfold State.evaluateList; split <;> simp [ih]

@[simp] theorem State.sourceChanged_rbi (s : State) (n : Nat) : (s.sourceChanged n).1.rbi = s.rbi := by
  unfold State.sourceChanged
  split <;> simp

@[simp] theorem State.dropRequest_rbi (s : State) : s.dropRequest.rbi = s.rbi := by
  simp only [State.dropRequest, State.modStim_rbi]
  split <;> rfl

@[simp] theorem State.applySafe_rbi (s : State) : s.applySafe.rbi = s.rbi := by simp [State.applySafe]

@[simp] theorem State.applyItem_rbi (s : State) (i : SceneItem) : (s.applyItem i).rbi = s.rbi := by cases i <;> rfl

/-- A fold of an operation that leaves the bus alone leaves it alone. -/
theorem rbi_foldl {α : Type} {f : State → α → State} (h : ∀ s a, (f s a).rbi = s.rbi) (l : List α) (s : State) :
    (l.foldl f s).rbi = s.rbi := by
  induction l generalizing s with
  | nil => rfl
  | cons a l ih => simp [ih, h]

@[simp] theorem State.restUnnamed_rbi (s : State) (items : List SceneItem) : (s.restUnnamed items).rbi = s.rbi := by
  unfold State.restUnnamed
  exact rbi_foldl (fun t c => by split <;> rfl) _ _

@[simp] theorem State.applyItems_rbi (s : State) (scene : Nat) (replace : Bool) :
    (s.applyItems scene replace).rbi = s.rbi := by
  unfold State.applyItems
  split
  · rfl
  · simp only [State.modStim_rbi, rbi_foldl State.applyItem_rbi]
    split <;> simp

@[simp] theorem State.completeScene_rbi (s : State) : s.completeScene.1.rbi = s.rbi := by
  unfold State.completeScene
  split <;> rfl

@[simp] theorem State.applyScene_rbi (s : State) (scene : Nat) (replace : Bool) :
    (s.applyScene scene replace).1.rbi = s.rbi := by
  simp [State.applyScene]

@[simp] theorem State.evaluateScene_rbi (s : State) (scene : Nat) (replace : Bool) :
    (s.evaluateScene scene replace).1.rbi = s.rbi := by
  dsimp only [State.evaluateScene]
  repeat' split
  all_goals simp

@[simp] theorem State.requestScene_rbi (s : State) (scene : Nat) (replace : Bool) :
    (s.requestScene scene replace).1.rbi = s.rbi := by
  unfold State.requestScene
  repeat' split
  all_goals simp

@[simp] theorem State.evaluateHeld_rbi (s : State) : s.evaluateHeld.1.rbi = s.rbi := by
  unfold State.evaluateHeld
  split <;> simp

@[simp] theorem State.startWait_rbi (s : State) (r : Resource) : (s.startWait r).rbi = s.rbi := by
  unfold State.startWait
  repeat' split
  all_goals rfl

@[simp] theorem State.startPanel_rbi (s : State) : s.startPanel.rbi = s.rbi := by
  unfold State.startPanel
  repeat' split
  all_goals rfl

@[simp] theorem State.nestTo_rbi (s : State) (st : NestState) : (s.nestTo st).rbi = s.rbi := by
  dsimp only [State.nestTo]
  repeat' split
  all_goals simp

@[simp] theorem State.clampOpened_rbi (s : State) : s.clampOpened.rbi = s.rbi := by
  dsimp only [State.clampOpened]
  split <;> simp

@[simp] theorem State.enterReleasing_rbi (s : State) : s.enterReleasing.rbi = s.rbi := by
  dsimp only [State.enterReleasing]
  split <;> simp

@[simp] theorem State.unitReleases_rbi (s : State) : s.unitReleases.rbi = s.rbi := by
  unfold State.unitReleases
  split <;> simp

@[simp] theorem State.pushHistory_rbi (s : State) (e : HistoryEntry) : (s.pushHistory e).rbi = s.rbi := by
  dsimp only [State.pushHistory, State.evaluateSuspect]
  split <;> rfl

@[simp] theorem State.endingExit_rbi (s : State) : s.endingExit.rbi = s.rbi := by
  unfold State.endingExit
  split <;> rfl

@[simp] theorem State.armSource_rbi (s : State) (r : StepRecord) : (s.armSource r).rbi = s.rbi := by
  unfold State.armSource
  split <;> rfl

@[simp] theorem State.clearMarks_rbi (s : State) : s.clearMarks.rbi = s.rbi := by
  dsimp only [State.clearMarks]
  split <;> simp

@[simp] theorem State.attemptStart_rbi (s : State) : s.attemptStart.1.rbi = s.rbi := by
  dsimp only [State.attemptStart]
  split <;> simp

@[simp] theorem State.sceneApplied_rbi (s : State) : s.sceneApplied.1.rbi = s.rbi := by
  unfold State.sceneApplied
  split <;> rfl

@[simp] theorem State.judgePart_rbi (s : State) (r : StepRecord) : (s.judgePart r).1.rbi = s.rbi := by
  dsimp only [State.judgePart]
  repeat' split
  all_goals rfl

/-! ### Operations that send or withdraw frames of their own block -/

theorem State.dueExclusive_not_outer (s : State) (r : Resource) : ∀ b ∈ s.dueExclusive r, b.isOuter = false := by
  unfold State.dueExclusive
  repeat' split
  all_goals simp

theorem State.dueBudget_not_outer (s : State) : ∀ b ∈ s.dueBudget, b.isOuter = false := by
  dsimp only [State.dueBudget, State.budgetRelease]
  repeat' split
  all_goals simp

/-- The frame due for a resource in a CLOSED window is one of the Claim Unit's (R155). -/
theorem State.dueFrame_not_outer (s : State) (r : Resource) : ∀ b ∈ s.dueFrame r, b.isOuter = false := by
  cases r
  case budget => exact s.dueBudget_not_outer
  all_goals exact s.dueExclusive_not_outer _

theorem State.openExclusive_not_outer (s : State) (r : Resource) : ∀ b ∈ s.openExclusive r, b.isOuter = false := by
  dsimp only [State.openExclusive]
  repeat' split
  all_goals simp

theorem State.openBudget_not_outer (s : State) (held : Bool) : ∀ b ∈ s.openBudget held, b.isOuter = false := by
  dsimp only [State.openBudget, State.budgetRelease]
  repeat' split
  all_goals simp

/-- The frame due for a resource in an OPEN window is one of the Claim Unit's (R159). -/
theorem State.openFrame_not_outer (s : State) (held : Bool) (r : Resource) :
    ∀ b ∈ s.openFrame held r, b.isOuter = false := by
  cases r
  case budget => exact s.openBudget_not_outer held
  all_goals exact s.openExclusive_not_outer _

theorem State.sendDue_outerFrames {o : Option TxBody} (h : ∀ b ∈ o, b.isOuter = false) (s : State) :
    (s.sendDue o).rbi.outerFrames = s.rbi.outerFrames := by
  cases o with
  | none => rfl
  | some b => exact s.send_outerFrames b (h b rfl)

theorem claimFrame_not_outer {r : Resource} {b : TxBody} (h : isClaimFrame r b = true) : b.isOuter = false := by
  simp only [isClaimFrame, beq_iff_eq] at h
  simp [TxBody.isOuter, h]

@[simp] theorem State.checkResource_outerFrames (s : State) (r : Resource) :
    (s.checkResource r).rbi.outerFrames = s.rbi.outerFrames := by
  have due : ∀ (isOpen held : Bool) (u : State),
      ∀ b ∈ (if isOpen then u.openFrame held r else u.dueFrame r), b.isOuter = false := by
    rintro (_ | _) held u
    · exact u.dueFrame_not_outer r
    · exact u.openFrame_not_outer held r
  dsimp only [State.checkResource]
  cases claimEntry s.rbi.queue r with
  | some e =>
    dsimp only
    generalize (if s.view.window.isSome then s.openRight e.body else s.rightFrame e.body) = right
    split
    · rfl
    · rw [State.sendDue_outerFrames (due _ _ _), State.withdraw_outerFrames (fun _ => claimFrame_not_outer)]
  | none =>
    dsimp only
    generalize hd : (if s.view.window.isSome then s.openFrame false r else s.dueFrame r) = o
    have ho : ∀ b ∈ o, b.isOuter = false := hd ▸ due _ false s
    split
    · exact State.sendDue_outerFrames (fun b hb => ho b (Option.mem_filter_iff.mp hb).1) s
    · exact State.sendDue_outerFrames ho s

@[simp] theorem State.claimCheck_outerFrames (s : State) : s.claimCheck.rbi.outerFrames = s.rbi.outerFrames := by
  unfold State.claimCheck
  split
  · rfl
  · dsimp only [List.foldl]
    split <;> simp

@[simp] theorem State.queueMeasure_outerFrames (s : State) (spot exposure : Nat) :
    (s.queueMeasure spot exposure).rbi.outerFrames = s.rbi.outerFrames :=
  s.send_outerFrames _ rfl

@[simp] theorem State.askMeasure_outerFrames (s : State) (spot exposure : Nat) :
    (s.askMeasure spot exposure).rbi.outerFrames = s.rbi.outerFrames := by
  unfold State.askMeasure
  repeat' split
  all_goals simp

theorem measureRequest_frame_not_outer {b : TxBody} (h : isMeasureRequest b = true) : b.isOuter = false := by
  cases b with
  | measureRequest => rfl
  | _ => cases h

@[simp] theorem State.cancelMeasure_outerFrames (s : State) : s.cancelMeasure.rbi.outerFrames = s.rbi.outerFrames :=
  State.withdraw_outerFrames (fun _ => measureRequest_frame_not_outer) s

@[simp] theorem State.endGantry_outerFrames (s : State) : s.endGantry.rbi.outerFrames = s.rbi.outerFrames := by
  dsimp only [State.endGantry]
  split <;> simp

@[simp] theorem State.postEntry_outerFrames (s : State) (p : PromptEntry → Bool) :
    (s.postEntry p).rbi.outerFrames = s.rbi.outerFrames := by
  unfold State.postEntry
  split
  · exact State.send_outerFrames _ _ rfl
  · rfl

@[simp] theorem State.grantPanel_outerFrames (s : State) : s.grantPanel.rbi.outerFrames = s.rbi.outerFrames := by
  unfold State.grantPanel
  split <;> simp

@[simp] theorem State.beginWithdrawal_outerFrames (s : State) (tag : Tag) :
    (s.beginWithdrawal tag).rbi.outerFrames = s.rbi.outerFrames :=
  State.send_outerFrames _ _ rfl

@[simp] theorem State.takeDown_outerFrames (s : State) (src : PromptSource) (tag : Tag) :
    (s.takeDown src tag).rbi.outerFrames = s.rbi.outerFrames := by
  simp [State.takeDown]

theorem post_frame_not_outer {b : TxBody} (h : isPost b = true) : b.isOuter = false := by
  cases b with
  | promptPost => rfl
  | _ => cases h

@[simp] theorem State.endNeed_outerFrames (s : State) (src : PromptSource) :
    (s.endNeed src).rbi.outerFrames = s.rbi.outerFrames := by
  have post : ∀ (e : PromptEntry) (tag : Tag) (b : TxBody), (isPost b && b == e.post tag) = true → b.isOuter = false :=
    fun e tag b h => post_frame_not_outer (Bool.and_eq_true_iff.mp h).1
  unfold State.endNeed
  repeat' split
  all_goals simp [State.withdraw_outerFrames (post _ _)]

@[simp] theorem State.sendNotice_outerFrames (s : State) (verdict : Nat) (code : Option Nat) :
    (s.sendNotice verdict code).rbi.outerFrames = s.rbi.outerFrames :=
  s.send_outerFrames _ rfl

@[simp] theorem State.unitEnd_outerFrames (s : State) : s.unitEnd.rbi.outerFrames = s.rbi.outerFrames := by
  simp [State.unitEnd]

@[simp] theorem State.abortUnit_outerFrames (s : State) (code : Nat) :
    (s.abortUnit code).rbi.outerFrames = s.rbi.outerFrames := by
  dsimp only [State.abortUnit]
  repeat' split
  all_goals simp

@[simp] theorem State.gantryGranted_outerFrames (s : State) : s.gantryGranted.rbi.outerFrames = s.rbi.outerFrames := by
  dsimp only [State.gantryGranted]
  split <;> simp

@[simp] theorem State.grantGantry_outerFrames (s : State) : s.grantGantry.rbi.outerFrames = s.rbi.outerFrames := by
  unfold State.grantGantry
  repeat' split
  all_goals simp

@[simp] theorem State.kindPart_outerFrames (s : State) : s.kindPart.1.rbi.outerFrames = s.rbi.outerFrames := by
  dsimp only [State.kindPart]
  repeat' split
  all_goals simp

@[simp] theorem State.afterStep_outerFrames (s : State) (r : StepRecord) (o : AttemptOutcome) :
    (s.afterStep r o).1.rbi.outerFrames = s.rbi.outerFrames := by
  unfold State.afterStep
  repeat' split
  all_goals simp

@[simp] theorem State.attemptEnd_outerFrames (s : State) (o : AttemptOutcome) (rd : Option Reading) (unsettled : Bool) :
    (s.attemptEnd o rd unsettled).1.rbi.outerFrames = s.rbi.outerFrames := by
  dsimp only [State.attemptEnd]
  repeat' split
  all_goals simp

@[simp] theorem State.phase_outerFrames (s : State) (p : Phase) :
    (s.phase p).1.rbi.outerFrames = s.rbi.outerFrames := by
  cases p <;> simp [State.phase]

@[simp] theorem State.drive_outerFrames (n : Nat) (r : State × Option Phase) :
    (State.drive n r).rbi.outerFrames = r.1.rbi.outerFrames := by
  induction n generalizing r with
  | zero => rfl
  | succ n ih => obtain ⟨s, p⟩ := r; cases p <;> simp [State.drive, ih]

@[simp] theorem State.report_outerFrames (r : State × Option Phase) :
    (State.report r).rbi.outerFrames = r.1.rbi.outerFrames := by
  unfold State.report State.run
  split <;> simp

/-! ### The end of an event -/

@[simp] theorem State.grantBudget_outerFrames (s : State) : s.grantBudget.rbi.outerFrames = s.rbi.outerFrames := by
  dsimp only [State.grantBudget]
  repeat' split
  all_goals simp

@[simp] theorem State.surplusReturned_outerFrames (s : State) :
    s.surplusReturned.rbi.outerFrames = s.rbi.outerFrames := by
  unfold State.surplusReturned
  repeat' split
  all_goals simp

theorem State.queues_send {s : State} {b : TxBody} (c : TxBody) (h : s.Queues b) : (s.send c).Queues b := by
  obtain ⟨e, he, rfl⟩ := h
  unfold State.send
  split
  · exact ⟨e, mem_txInsert.mpr (.inr he), rfl⟩
  · exact ⟨e, he, rfl⟩

theorem State.queues_sendOwed {s : State} {b : TxBody} (h : s.Queues b) : s.sendOwed.Queues b := by
  dsimp only [State.sendOwed]
  generalize ht : (if s.join.attentionDue && txRoom s.rbi.queue .joinView then
      (s.send .attention).modJoin (fun j => { j with attentionDue := false }) else s) = t
  have hq : t.Queues b := by
    subst ht
    split
    · exact State.queues_send .attention h
    · exact h
  split
  · split
    · exact State.queues_send _ hq
    · exact hq
  · exact hq

theorem State.queues_startBus {s : State} {b : TxBody} (h : s.Queues b) : s.startBus.Queues b := by
  unfold State.startBus
  split
  next e es _ hq =>
    obtain ⟨x, hx, rfl⟩ := h
    rw [hq, List.mem_cons] at hx
    rcases hx with rfl | hx
    · exact ⟨_, List.mem_cons_self, rfl⟩
    · exact ⟨x, List.mem_cons_of_mem _ hx, rfl⟩
  next => exact h

/-- A reply of the Command Handler, or a frame of the join machine, that stands in the queue still stands there when
the event has ended. -/
theorem State.queues_finish {s : State} {b : TxBody} (delivery : Bool) (hb : b.isOuter = true) (h : s.Queues b) :
    (s.finish delivery).Queues b := by
  dsimp only [State.finish]
  apply State.queues_startBus
  generalize hu : (((if delivery then s.grantBudget.surplusReturned
    else s.grantBudget).grantGantry.grantPanel.endingExit.claimCheck).startPanel.claimCheck) = u
  have frames : u.rbi.outerFrames = s.rbi.outerFrames := by
    subst hu
    cases delivery <;> simp
  have hq : u.Queues b := (Rbi.mem_outerFrames.mp (frames ▸ Rbi.mem_outerFrames.mpr ⟨h, hb⟩)).1
  have hs : u.sendOwed.Queues b := State.queues_sendOwed hq
  rwa [State.Queues, State.arbiter_rbi]

end Sys2Proof.Machine

/-! ## A command that the Command Handler takes at its delivery, and the reply to it -/

namespace Sys2Proof.Machine
open Sys2Proof.Stated

/-- The station once the frame of a command has ended, `dt` ticks from `s`: the state in which its owner finds it. -/
def State.heard (s : State) (dt : Nat) : State := (s.elapse dt).endFrame

@[simp] theorem State.heard_now (s : State) (dt : Nat) : (s.heard dt).now = s.now + dt := rfl
@[simp] theorem State.heard_handler (s : State) (dt : Nat) : (s.heard dt).handler = s.handler := rfl
@[simp] theorem State.heard_view (s : State) (dt : Nat) : (s.heard dt).view = s.view := rfl
@[simp] theorem State.heard_plan (s : State) (dt : Nat) : (s.heard dt).plan = s.plan := rfl
@[simp] theorem State.heard_join (s : State) (dt : Nat) : (s.heard dt).join = s.join := rfl
@[simp] theorem State.heard_store (s : State) (dt : Nat) : (s.heard dt).store = s.store := rfl
@[simp] theorem State.heard_core (s : State) (dt : Nat) : (s.heard dt).core = s.core := rfl
@[simp] theorem State.heard_joined (s : State) (dt : Nat) : (s.heard dt).joined = s.joined := rfl
@[simp] theorem State.heard_openRecord (s : State) (dt : Nat) : (s.heard dt).openRecord = s.openRecord := rfl

/-- A frame that ends keeps every frame in its place, none of them on the line. -/
@[simp] theorem State.heard_txCount (s : State) (dt : Nat) (p : Producer) :
    txCount (s.heard dt).rbi.queue p = txCount s.rbi.queue p := by
  simp [State.heard, State.endFrame, State.elapse, State.modRbi, txCount, List.countP_map, Function.comp_def]

theorem State.joined_iff {s : State} : s.joined = true ↔ HasJoined s := by
  simp [State.joined, HasJoined]

/-- The Command Handler as a command finds it that is taken at once. -/
theorem State.ReadyFor.handler {s : State} {dt : Nat} {d : Delivery} (h : s.ReadyFor dt d) :
    s.handler.state = .ready ∧ s.handler.queue = [] ∧ txCount s.rbi.queue .handler < 4 := by
  obtain ⟨-, -, -, -, state, queue, room⟩ := h
  exact ⟨state, queue, room⟩

section
variable {s : State} {dt k : Nat} {d : Delivery}

/-- The delivery of a command that a handler in READY takes at once is routed to the command queue (R131, R136, R138). -/
theorem delivered_of_readyFor (h : s.ReadyFor dt d) (lo : 32 ≤ k) (hi : k ≤ 43) :
    s.delivered dt (deliveryFrame k d) = (s.heard dt).queueCommand ⟨k, d.payload⟩ := by
  obtain ⟨⟨bus, a1, a24⟩, hears, src, dst, -, queue, -⟩ := h
  have kind : (deliveryFrame k d).kind.toNat = k := by
    simp only [deliveryFrame, BitVec.toNat_ofNat]
    omega
  have other : ∀ b : TxBody, b.frame s.rbi.address ≠ deliveryFrame k d := by
    intro b hb
    have : (BitVec.ofNat 5 s.rbi.address).toNat = d.src.toNat := congrArg (fun f : Frame => f.src.toNat) hb
    rw [BitVec.toNat_ofNat] at this
    omega
  have heard : (s.elapse dt).missed (frameTicks (deliveryFrame k d)) = false := by
    simp only [State.missed, State.elapse_rbi, State.elapse_now]
    have ticks : frameTicks (deliveryFrame k d) = (41 + 8 * d.payload.length) * 16 := rfl
    split
    next hb => exact decide_eq_false (by rw [ticks]; exact Nat.not_lt.mpr (hears (.inl hb)))
    next hb => exact decide_eq_false (by rw [ticks]; exact Nat.not_lt.mpr (hears (.inr hb)))
    next => rfl
  have foreign : (deliveryFrame k d).src.toNat ≠ s.rbi.address := by
    simp only [deliveryFrame]
    omega
  have room : (s.elapse dt).refusesFrame (deliveryFrame k d) = false := by
    simp [State.refusesFrame, queue, Config.commandQueueSize]
  have received : (s.elapse dt).receive (deliveryFrame k d) = (s.heard dt).route (deliveryFrame k d) := by
    simp [State.receive, heard, foreign, room, State.heard]
  have command : forCommandQueue s.rbi.address (deliveryFrame k d) = true := by
    simp only [forCommandQueue, kind]
    simp [lo, hi, deliveryFrame, src, dst]
  have notView : isViewFrame (deliveryFrame k d) = false := by
    unfold isViewFrame
    rw [kind]
    split
    case h_10 => rfl
    all_goals omega
  have routed : (s.heard dt).route (deliveryFrame k d) = (s.heard dt).queueCommand ⟨k, d.payload⟩ := by
    unfold State.route
    rw [notView, show (s.heard dt).rbi.address = s.rbi.address from rfl, command, kind]
    rfl
  unfold State.delivered
  split
  · exact absurd ‹_› bus
  · split
    · rw [if_neg (other _), received, routed]
    · rw [received, routed]

end

/-- A handler in READY takes the oldest command (R139). -/
theorem State.takeCommands_succ {u : State} {c : Command} {cs : List Command} (n : Nat)
    (hr : u.handler.state = .ready) (hq : u.handler.queue = c :: cs) :
    u.takeCommands (n + 1) =
      (State.concludeTaking ((u.modHandler (fun h => { h with queue := cs })).takeCommand c)).takeCommands n := by
  rw [State.takeCommands, hr, hq]

/-- With nothing queued a handler takes nothing more. -/
theorem State.takeCommands_of_queue_nil {u : State} (h : u.handler.queue = []) (n : Nat) : u.takeCommands n = u := by
  cases n with
  | zero => rfl
  | succ n =>
    unfold State.takeCommands
    split
    next hq => rw [h] at hq; cases hq
    next => rfl

/-- An update that gives the handler back as it was changes nothing. -/
theorem State.modHandler_eq_self {u : State} {f : Handler → Handler} (h : f u.handler = u.handler) :
    u.modHandler f = u := by
  simp only [State.modHandler, h]

/-- A handler in READY with nothing queued takes a delivered command at once (R138, R139). -/
theorem State.queueCommand_ready {u : State} {c : Command} (hr : u.handler.state = .ready) (hq : u.handler.queue = []) :
    u.queueCommand c = (State.concludeTaking (u.takeCommand c)).takeCommands Config.commandQueueSize := by
  have same : (u.modHandler (fun h => { h with queue := h.queue ++ [c] })).modHandler (fun h => { h with queue := [] })
      = u := State.modHandler_eq_self (f := fun h => { h with queue := [] }) (by rw [← hq])
  have taken := State.takeCommands_succ (u := u.modHandler (fun h => { h with queue := h.queue ++ [c] })) (c := c)
    (cs := []) Config.commandQueueSize hr (by simp [hq])
  rwa [same] at taken

@[simp] theorem State.send_handler (s : State) (b : TxBody) : (s.send b).handler = s.handler :=
  congrArg Outer.handler (s.send_outer b)
@[simp] theorem State.send_plan (s : State) (b : TxBody) : (s.send b).plan = s.plan :=
  congrArg Outer.plan (s.send_outer b)
@[simp] theorem State.send_view (s : State) (b : TxBody) : (s.send b).view = s.view :=
  congrArg Outer.view (s.send_outer b)
@[simp] theorem State.send_join (s : State) (b : TxBody) : (s.send b).join = s.join :=
  congrArg Outer.join (s.send_outer b)

theorem State.send_queues {s : State} {b : TxBody} (room : txCount s.rbi.queue b.producer < b.producer.share) :
    (s.send b).Queues b := by
  have hr : txRoom s.rbi.queue b.producer = true := decide_eq_true room
  unfold State.send
  rw [if_pos hr]
  exact ⟨_, mem_txInsert.mpr (.inl rfl), rfl⟩

/-- The reply to a command finds room while the handler has fewer than 4 frames in the queue; its handler is READY
then (R134, R139). -/
theorem State.placeReply_of_room {u : State} (b : TxBody) (sent held : HandlerState)
    (room : txCount u.rbi.queue .handler < 4) :
    u.placeReply b sent held = (u.send b).modHandler (fun h => { h with state := sent }) := by
  have hr : txRoom u.rbi.queue .handler = true := decide_eq_true room
  unfold State.placeReply
  rw [if_pos hr]

/-- Settledness is a matter of the Stimulus Unit and the Step Engine. -/
theorem State.Settled.congr {s t : State} (h : s.Settled) (hm : t.stim = s.stim) (he : t.engine = s.engine) :
    t.Settled := by
  unfold State.Settled
  rwa [hm, he]

/-- The blocks between the frame port and the line are part of the core. -/
theorem coreUnchanged_of_core {s t : State} (h : t.core = s.core) : CoreUnchanged s t := by
  simp only [State.core, Core.mk.injEq] at h
  obtain ⟨nest, stim, -, capture, sense, engine, store, history⟩ := h
  exact ⟨nest, stim, capture, sense, engine, store, history⟩

/-- What closes an event leaves the blocks of a settled station as they are. -/
theorem State.Settled.finish_coreUnchanged {s u : State} (delivery : Bool) (h : s.Settled) (hc : u.core = s.core) :
    CoreUnchanged s (u.finish delivery) := by
  have hu : u.Settled := h.congr (core_stim hc) (core_engine hc)
  obtain ⟨nest, stim, capture, sense, engine, store, history⟩ := coreUnchanged_of_core hc
  obtain ⟨nest', stim', capture', sense', engine', store', history'⟩ := State.finish_settled delivery hu
  exact ⟨nest'.trans nest, stim'.trans stim, capture'.trans capture, sense'.trans sense, engine'.trans engine,
    store'.trans store, history'.trans history⟩

section
variable {s u : State} {dt k : Nat} {d : Delivery} {b : TxBody}

/-- The event of a command that a handler in READY takes (R138, R139). -/
theorem deliver_of_readyFor (h : s.ReadyFor dt d) (lo : 32 ≤ k) (hi : k ≤ 43) :
    s.deliver dt (deliveryFrame k d) =
      ((State.concludeTaking ((s.heard dt).takeCommand ⟨k, d.payload⟩)).takeCommands Config.commandQueueSize).finish
        true := by
  obtain ⟨ready, queue, -⟩ := h.handler
  unfold State.deliver
  rw [delivered_of_readyFor h lo hi, State.queueCommand_ready (u := s.heard dt) ready queue]

/-- A command that its owner answers at once, leaving the bus and the handler to the reply: the reply stands in the
queue, the handler is READY again, and of the blocks only what the owner changed has changed, at a settled station. -/
theorem deliver_of_reply (h : s.ReadyFor dt d) (lo : 32 ≤ k) (hi : k ≤ 43)
    (taken : (s.heard dt).takeCommand ⟨k, d.payload⟩ = (u, .reply b)) (hb : b.producer = .handler)
    (rbi : u.rbi = (s.heard dt).rbi) (handler : u.handler = s.handler) :
    let t := s.deliver dt (deliveryFrame k d)
    t.Queues b ∧ t.handler = s.handler ∧ t.plan = u.plan ∧ t.view = u.view ∧ t.join.state = u.join.state ∧
      (u.Settled → CoreUnchanged u t) := by
  obtain ⟨ready, queue, room⟩ := h.handler
  have hroom : txCount u.rbi.queue .handler < 4 := by rwa [rbi, State.heard_txCount]
  have placed : u.placeReply b .ready .replyWaiting = u.send b := by
    rw [State.placeReply_of_room b _ _ hroom]
    exact State.modHandler_eq_self (by rw [State.send_handler, handler, ← ready])
  have result : s.deliver dt (deliveryFrame k d) = (u.send b).finish true := by
    rw [deliver_of_readyFor h lo hi, taken]
    simp only [State.concludeTaking, placed]
    rw [State.takeCommands_of_queue_nil (by simp [handler, queue])]
  intro t
  have ht : t = (u.send b).finish true := result
  have kept := (u.send b).finish_kept true
  rw [ht]
  refine ⟨State.queues_finish true (by simp [TxBody.isOuter, hb]) (State.send_queues (by rw [hb]; exact hroom)),
    by simp [handler], by simp, by simp, by rw [kept.joinState, State.send_join], fun settled => ?_⟩
  exact settled.finish_coreUnchanged true (u.send_core b)

/-- A command that is refused changes nothing but the queues of the bus. -/
theorem refusedWith_of_taken {c : Instr} {tag : Tag} {cls code q : Nat} (h : s.ReadyFor dt d) (lo : 32 ≤ k) (hi : k ≤ 43)
    (hc : exec c s = .next (s.deliver dt (deliveryFrame k d)))
    (taken : (s.heard dt).takeCommand ⟨k, d.payload⟩ = (s.heard dt, .reply (.refuse k tag cls code q))) :
    RefusedWith c s k tag cls code q := by
  obtain ⟨reply, handler, plan, view, join, core⟩ := deliver_of_reply h lo hi taken rfl rfl rfl
  exact ⟨_, hc, reply, handler, plan, view, join, fun settled => core settled⟩

end

end Sys2Proof.Machine

/-! ## PLAN BEGIN -/

namespace Sys2Proof.Machine
open Sys2Proof.Stated

/-- A command of the length of its kind is handed to its owner (R141). -/
theorem State.takeCommand_of_length (s : State) {c : Command} (h : c.kind ≠ 33 → c.payload.length = commandLength c.kind) :
    s.takeCommand c = s.handToOwner c := by
  unfold State.takeCommand
  rw [if_neg]
  rintro ⟨hk, hl⟩
  exact hl (h hk)

theorem State.openRecord_isSome_iff {s : State} :
    s.openRecord.isSome = true ↔ ∃ r ∈ s.store.records, r.verdict = .unfinished := by
  simp [State.openRecord, UnitRecord.isOpen]

theorem exec_planBegin (dt : Nat) (d : Delivery) (s : State) :
    exec (.planBegin dt d) s = .next (s.deliver dt (deliveryFrame 32 d)) := rfl

theorem exec_planRecord (dt : Nat) (d : Delivery) (s : State) :
    exec (.planRecord dt d) s = .next (s.deliver dt (deliveryFrame 33 d)) := rfl

theorem exec_planSeal (dt : Nat) (d : Delivery) (s : State) :
    exec (.planSeal dt d) s = .next (s.deliver dt (deliveryFrame 34 d)) := rfl

section
variable {s : State} {c : Command}

/-- PLAN BEGIN while a unit is open (R2). -/
theorem State.takePlanBegin_open (hj : s.joined = true) (ho : s.openRecord.isSome = true) :
    s.takePlanBegin c = (s, c.refuse 3 1 0) := by
  simp [State.takePlanBegin, hj, ho]

/-- PLAN BEGIN with plan id 0 (R2). -/
theorem State.takePlanBegin_zero (hj : s.joined = true) (ho : s.openRecord.isSome = false)
    (hid : word16 c.payload 1 = 0) : s.takePlanBegin c = (s, c.refuse 2 3 1) := by
  simp [State.takePlanBegin, hj, ho, hid]

/-- PLAN BEGIN taken (R2, R97). -/
theorem State.takePlanBegin_taken (hj : s.joined = true) (ho : s.openRecord.isSome = false)
    (hid : word16 c.payload 1 ≠ 0) :
    s.takePlanBegin c = ((s.modPlan (fun p => p.begin (word16 c.payload 1))).clearConditions, c.accept 0) := by
  simp [State.takePlanBegin, hj, ho, hid]

end

/-- Settles O31: the three outcomes of PLAN BEGIN are those of its owner, carried to the end of the event. -/
theorem planBeginEmptiesTheStore : Obligations.PlanBeginEmptiesTheStore := by
  intro s dt d tag hi lo ready joined payload
  have hj : (s.heard dt).joined = true := State.joined_iff.mpr joined
  have owner : (s.heard dt).takeCommand ⟨32, d.payload⟩ = (s.heard dt).takePlanBegin ⟨32, d.payload⟩ :=
    State.takeCommand_of_length _ (fun _ => by rw [payload]; rfl)
  have planId : word16 d.payload 1 = twoBytes hi lo := by rw [payload]; rfl
  have tagged : (⟨32, d.payload⟩ : Command).tag = tag := by rw [payload]; rfl
  have closed : (∀ r ∈ s.store.records, r.verdict ≠ .unfinished) → (s.heard dt).openRecord.isSome = false := by
    intro h
    rw [State.heard_openRecord, Bool.eq_false_iff, Ne, State.openRecord_isSome_iff]
    rintro ⟨r, hr, hv⟩
    exact h r hr hv
  refine ⟨fun isOpen => ?isOpen, fun none zero => ?zero, fun none nonzero => ?taken⟩
  case isOpen =>
    refine refusedWith_of_taken ready (by decide) (by decide) (exec_planBegin dt d s) ?_
    rw [owner, State.takePlanBegin_open hj (State.openRecord_isSome_iff.mpr isOpen), Command.refuse, tagged]
  case zero =>
    refine refusedWith_of_taken ready (by decide) (by decide) (exec_planBegin dt d s) ?_
    rw [owner, State.takePlanBegin_zero (c := ⟨32, d.payload⟩) hj (closed none) (planId.trans zero), Command.refuse, tagged]
  case taken =>
    have taken := State.takePlanBegin_taken (c := ⟨32, d.payload⟩) hj (closed none) (by rwa [planId])
    rw [planId, Command.accept, tagged] at taken
    obtain ⟨reply, handler, plan, -, -, core⟩ :=
      deliver_of_reply ready (by decide) (by decide) (owner.trans taken) rfl rfl rfl
    have plan' : (s.deliver dt (deliveryFrame 32 d)).plan = s.plan.begin (twoBytes hi lo) := plan
    refine ⟨_, exec_planBegin dt d s, ⟨reply, handler⟩, ?_⟩
    rw [plan']
    refine ⟨rfl, rfl, rfl, rfl, rfl, rfl, rfl, rfl, rfl, rfl, rfl, rfl, rfl, fun e => List.mem_filter, fun settled => ?_⟩
    obtain ⟨nest, stim, capture, sense, engine, store, history⟩ := core settled
    exact ⟨by rw [sense]; rfl, nest, stim, engine, store, history, capture⟩

end Sys2Proof.Machine

/-! ## PLAN RECORD -/

namespace Sys2Proof.Machine
open Sys2Proof.Stated

theorem slotGet_cons {α : Type} (j k : Nat) (v : α) (l : Slots α) :
    slotGet ((j, v) :: l) k = if k = j then some v else slotGet l k := by
  unfold slotGet
  rw [List.lookup_cons]
  by_cases h : k = j
  · simp [h]
  · rw [if_neg h, beq_false_of_ne h]

/-- A slot reads back what has been written into it; every other slot keeps what it held. -/
theorem slotGet_slotPut {α : Type} (k j : Nat) (v : α) (l : Slots α) :
    slotGet (slotPut k v l) j = if j = k then some v else slotGet l j := by
  induction l with
  | nil => simp [slotPut, slotGet_cons]
  | cons e l ih =>
    obtain ⟨i, w⟩ := e
    unfold slotPut
    split
    · exact slotGet_cons k j v _
    · split
      next hki =>
        subst hki
        simp only [slotGet_cons]
        split <;> rfl
      next hki =>
        simp only [slotGet_cons, ih]
        split
        next hji =>
          subst hji
          rw [if_neg (Ne.symm hki)]
        next => rfl

/-- The record kinds of R195. -/
theorem recordKind_cases {k : Nat} (lo : 1 ≤ k) (hi : k ≤ 11) :
    k = 1 ∨ k = 2 ∨ k = 3 ∨ k = 4 ∨ k = 5 ∨ k = 6 ∨ k = 7 ∨ k = 8 ∨ k = 9 ∨ k = 10 ∨ k = 11 := by
  omega

/-- The layouts of the record kinds are as long as the Plan Store takes them to be (R195). -/
theorem recordLength_eq_fieldBytes {k : Nat} (lo : 1 ≤ k) (hi : k ≤ 11) : recordLength k = fieldBytes k := by
  rcases recordKind_cases lo hi with rfl | rfl | rfl | rfl | rfl | rfl | rfl | rfl | rfl | rfl | rfl <;>
    rfl

/-- The slots of a record kind are those that check 6 of R3 accepts. -/
theorem inSlots_iff_slotRange {k : Nat} (lo : 1 ≤ k) (hi : k ≤ 11) (n : Nat) :
    InSlots k n ↔ (slotRange k).1 ≤ n ∧ n ≤ (slotRange k).2 := by
  rcases recordKind_cases lo hi with rfl | rfl | rfl | rfl | rfl | rfl | rfl | rfl | rfl | rfl | rfl <;>
    simp [InSlots, slotRange] <;> omega

section
variable {p : Plan} {id kind slot : Nat} {f : List Byte}

theorem Plan.recordRefusal_notLoading (h : p.state ≠ .loading) : p.recordRefusal id kind slot f = some (1, 0) := by
  simp [Plan.recordRefusal, h]

theorem Plan.recordRefusal_otherId (h : p.state = .loading) (hid : p.id ≠ some id) :
    p.recordRefusal id kind slot f = some (2, 0) := by
  simp [Plan.recordRefusal, h, hid]

theorem Plan.recordRefusal_unknownKind (h : p.state = .loading) (hid : p.id = some id) (hk : kind = 0 ∨ 11 < kind) :
    p.recordRefusal id kind slot f = some (4, 0) := by
  have : ¬(1 ≤ kind ∧ kind ≤ 11) := by omega
  simp only [Plan.recordRefusal, h, hid, this]
  simp

theorem Plan.recordRefusal_wrongLength (h : p.state = .loading) (hid : p.id = some id) (lo : 1 ≤ kind) (hi : kind ≤ 11)
    (hl : f.length ≠ fieldBytes kind) : p.recordRefusal id kind slot f = some (8, 0) := by
  simp [Plan.recordRefusal, h, hid, lo, hi, recordLength_eq_fieldBytes lo hi, hl]

section
variable (h : p.state = .loading) (hid : p.id = some id) (lo : 1 ≤ kind) (hi : kind ≤ 11)
  (hl : f.length = fieldBytes kind)
include h hid lo hi hl

/-- The checks of the slot, which come after those of the plan, the kind and the length (R3). -/
theorem Plan.recordRefusal_slot :
    p.recordRefusal id kind slot f =
      if ¬((slotRange kind).1 ≤ slot ∧ slot ≤ (slotRange kind).2) then some (5, slot)
      else if (kind = 5 ∧ slot = 0) ∨ (kind = 6 ∧ slot < 16) then some (6, 0)
      else if kind = 6 ∧ p.retained (slot / 16) then some (7, 5000 + slot / 16)
      else none := by
  simp [Plan.recordRefusal, h, hid, lo, hi, recordLength_eq_fieldBytes lo hi, hl]

theorem Plan.recordRefusal_outOfSlots (out : ¬InSlots kind slot) :
    p.recordRefusal id kind slot f = some (5, slot) := by
  rw [Plan.recordRefusal_slot h hid lo hi hl, if_pos (mt (inSlots_iff_slotRange lo hi slot).mpr out)]

theorem Plan.recordRefusal_sceneZero (inside : InSlots kind slot)
    (zero : (kind = 5 ∧ slot = 0) ∨ (kind = 6 ∧ slot < 16)) : p.recordRefusal id kind slot f = some (6, 0) := by
  rw [Plan.recordRefusal_slot h hid lo hi hl, if_neg (Classical.not_not.mpr ((inSlots_iff_slotRange lo hi slot).mp inside)),
    if_pos zero]

theorem Plan.recordRefusal_retained (inside : InSlots kind slot) (item : kind = 6) (above : 16 ≤ slot)
    (kept : p.retained (slot / 16) = true) : p.recordRefusal id kind slot f = some (7, 5000 + slot / 16) := by
  rw [Plan.recordRefusal_slot h hid lo hi hl, if_neg (Classical.not_not.mpr ((inSlots_iff_slotRange lo hi slot).mp inside)),
    if_neg (by omega), if_pos ⟨item, kept⟩]

theorem Plan.recordRefusal_none (inside : InSlots kind slot) (head : kind = 5 → 1 ≤ slot)
    (item : kind = 6 → 16 ≤ slot ∧ p.retained (slot / 16) = false) : p.recordRefusal id kind slot f = none := by
  rw [Plan.recordRefusal_slot h hid lo hi hl, if_neg (Classical.not_not.mpr ((inSlots_iff_slotRange lo hi slot).mp inside)),
    if_neg (by omega), if_neg]
  rintro ⟨hk, kept⟩
  rw [(item hk).2] at kept
  cases kept

end
end

/-- The written-slot count rises by 1 for a slot that held no record (R4). -/
theorem Plan.counted_eq (p : Plan) (occupied : Bool) :
    p.counted occupied = { p with written := p.written + if occupied then 0 else 1 } := by
  cases occupied <;> rfl

theorem Plan.discardRetained_of_retained {p : Plan} {n : Nat} (h : p.retained n = true) :
    p.discardRetained n = { p with heads := p.heads.filter (fun e => e.1 != n),
                                   items := p.items.filter (fun e => e.1 / 16 != n) } := by
  simp [Plan.discardRetained, h]

theorem Plan.discardRetained_of_not_retained {p : Plan} {n : Nat} (h : p.retained n = false) :
    p.discardRetained n = p := by
  simp [Plan.discardRetained, h]

section
variable {s : State} {dt : Nat} {d : Delivery} {tag i1 i0 k s1 s0 : Byte} {f : List Byte}

/-- A PLAN RECORD with a whole plan id that a check refuses (R3). -/
theorem State.takePlanRecord_refused {c : Command} {code q : Nat} (hj : s.joined = true) (whole : 3 ≤ c.payload.length)
    (refusal : s.plan.recordRefusal (word16 c.payload 1) (byteAt c.payload 3) (word16 c.payload 4) (c.payload.drop 6)
      = some (code, q)) : s.takePlanRecord c = (s, c.refuse 2 code q) := by
  simp [State.takePlanRecord, hj, Nat.not_lt.mpr whole, refusal]

/-- A PLAN RECORD that passes every check is written into its slot (R4). -/
theorem State.takePlanRecord_written {c : Command} {r : PlanRecord} (hj : s.joined = true)
    (whole : 3 ≤ c.payload.length)
    (fits : s.plan.recordRefusal (word16 c.payload 1) (byteAt c.payload 3) (word16 c.payload 4) (c.payload.drop 6) = none)
    (parsed : parseRecord (byteAt c.payload 3) (word16 c.payload 4) (c.payload.drop 6) = some r) :
    s.takePlanRecord c = (s.modPlan (fun p => p.write (word16 c.payload 4) r), c.accept 0) := by
  simp [State.takePlanRecord, hj, Nat.not_lt.mpr whole, fits, parsed]

/-- A PLAN RECORD that a check of R3 refuses. -/
theorem planRecord_refused {code q : Nat} (ready : s.ReadyFor dt d) (joined : HasJoined s)
    (payload : d.payload = [tag, i1, i0, k, s1, s0] ++ f)
    (refusal : s.plan.recordRefusal (twoBytes i1 i0) k.toNat (twoBytes s1 s0) f = some (code, q)) :
    RefusedWith (.planRecord dt d) s 33 tag 2 code q := by
  refine refusedWith_of_taken ready (by decide) (by decide) (exec_planRecord dt d s) ?_
  rw [State.takeCommand_of_length _ (fun h => absurd rfl h), payload]
  exact State.takePlanRecord_refused (c := ⟨33, [tag, i1, i0, k, s1, s0] ++ f⟩) (State.joined_iff.mpr joined) (by simp) refusal

/-- A PLAN RECORD that passes the checks of R3 writes its record: `written` says which slots of the plan that is. -/
theorem planRecord_writes {α : Type} {r : PlanRecord} {x : α} {old : Slots α} {put : Slots α → Nat → Plan}
    (ready : s.ReadyFor dt d) (joined : HasJoined s) (payload : d.payload = [tag, i1, i0, k, s1, s0] ++ f)
    (fits : s.plan.recordRefusal (twoBytes i1 i0) k.toNat (twoBytes s1 s0) f = none)
    (parsed : parseRecord k.toNat (twoBytes s1 s0) f = some r)
    (written : s.plan.write (twoBytes s1 s0) r =
      put (slotPut (twoBytes s1 s0) x old) (s.plan.written + if (slotGet old (twoBytes s1 s0)).isSome then 0 else 1)) :
    Writes (.planRecord dt d) s tag (twoBytes s1 s0) old x put := by
  have taken : (s.heard dt).takeCommand ⟨33, d.payload⟩ =
      ((s.heard dt).modPlan (fun p => p.write (twoBytes s1 s0) r), .reply (.accept 33 tag 0)) := by
    rw [State.takeCommand_of_length _ (fun h => absurd rfl h), payload]
    exact State.takePlanRecord_written (c := ⟨33, [tag, i1, i0, k, s1, s0] ++ f⟩) (State.joined_iff.mpr joined) (by simp) fits
      parsed
  obtain ⟨reply, handler, plan, -, -, core⟩ := deliver_of_reply ready (by decide) (by decide) taken rfl rfl rfl
  refine ⟨_, _, exec_planRecord dt d s, ⟨reply, handler⟩, plan.trans written, ?_, fun j hj => ?_,
    fun settled => core settled⟩
  · rw [slotGet_slotPut, if_pos rfl]
  · rw [slotGet_slotPut, if_neg hj]

end

/-- Settles O32: each check of R3 in its order, and then the writing by the kind of the record. -/
theorem planRecordWritesItsSlot : Obligations.PlanRecordWritesItsSlot := by
  intro s dt d tag i1 i0 k s1 s0 f ready joined payload c n p
  have refused : ∀ {code q}, p.recordRefusal (twoBytes i1 i0) k.toNat n f = some (code, q) →
      RefusedWith c s 33 tag 2 code q := planRecord_refused ready joined payload
  refine ⟨fun h => refused (Plan.recordRefusal_notLoading h), fun h hid => refused (Plan.recordRefusal_otherId h hid),
    fun h hid => ⟨fun hk => refused (Plan.recordRefusal_unknownKind h hid hk),
      fun lo hi hl => refused (Plan.recordRefusal_wrongLength h hid lo hi hl), fun lo hi hl => ?_⟩⟩
  refine ⟨fun out => refused (Plan.recordRefusal_outOfSlots h hid lo hi hl out), fun inside zero => refused ?sceneZero,
    fun hk above below kept => refused ?retained, fun inside => ?writes⟩
  case sceneZero =>
    refine Plan.recordRefusal_sceneZero h hid lo hi hl inside ?_
    rcases zero with ⟨rfl, hn⟩ | ⟨rfl, hn⟩
    · exact .inl ⟨rfl, hn⟩
    · exact .inr ⟨rfl, hn⟩
  case retained =>
    subst hk
    exact Plan.recordRefusal_retained h hid lo hi hl ⟨nofun, Nat.lt_succ_of_le below⟩ rfl above kept
  case writes =>
    have write : ∀ {α : Type} {r : PlanRecord} {x : α} {old : Slots α} {put : Slots α → Nat → Plan},
        (k.toNat = 5 → 1 ≤ n) → (k.toNat = 6 → 16 ≤ n ∧ p.retained (n / 16) = false) →
        parseRecord k.toNat n f = some r →
        p.write n r = put (slotPut n x old) (p.written + if (slotGet old n).isSome then 0 else 1) →
        Writes c s tag n old x put :=
      fun head item => planRecord_writes ready joined payload (Plan.recordRefusal_none h hid lo hi hl inside head item)
    refine ⟨?_, ?_, ?_, ?_, ?head, ?keptHead, ?item, ?_, ?_, ?_, ?_, ?_⟩
    case head =>
      rintro rfl one new
      refine write (fun _ => one) nofun rfl ?_
      simp only [Plan.write, Plan.discardRetained_of_not_retained new, Plan.counted_eq, slotHas]
    case keptHead =>
      rintro rfl one kept
      refine write (fun _ => one) nofun rfl ?_
      simp only [Plan.write, Plan.discardRetained_of_retained kept, Plan.counted_eq, slotHas]
    case item =>
      rintro rfl above new
      refine write nofun (fun _ => ⟨above, new⟩) rfl ?_
      simp only [Plan.write, Plan.counted_eq, slotHas]
    all_goals
      rintro rfl
      refine write nofun nofun rfl ?_
      simp only [Plan.write, Plan.counted_eq, slotHas]

end Sys2Proof.Machine

/-! ## PLAN SEAL and the end of its validation -/

namespace Sys2Proof.Machine
open Sys2Proof.Stated

section
variable {s : State} {c : Command}

/-- PLAN SEAL of a plan that is not LOADING (R5). -/
theorem State.takePlanSeal_notLoading (hj : s.joined = true) (h : s.plan.state ≠ .loading) :
    s.takePlanSeal c = (s, c.refuse 2 1 0) := by
  simp [State.takePlanSeal, hj, h]

/-- PLAN SEAL under another plan id (R5). -/
theorem State.takePlanSeal_otherId (hj : s.joined = true) (h : s.plan.state = .loading)
    (hid : s.plan.id ≠ some (word16 c.payload 1)) : s.takePlanSeal c = (s, c.refuse 2 2 0) := by
  simp [State.takePlanSeal, hj, h, hid]

/-- PLAN SEAL taken: its validation has begun (R5). -/
theorem State.takePlanSeal_taken (hj : s.joined = true) (h : s.plan.state = .loading)
    (hid : s.plan.id = some (word16 c.payload 1)) :
    s.takePlanSeal c =
      (s.modHandler (fun x => { x with job := some ⟨c.tag, byteAt c.payload 3, word16 c.payload 4, s.now⟩ }),
        .working) := by
  simp [State.takePlanSeal, hj, h, hid]

end

/-- PLAN SEAL (R5, R139): the first part of the statement. -/
theorem planSeal_startsValidation {s : State} {dt : Nat} {d : Delivery} {tag i1 i0 n c1 c0 : Byte}
    (ready : s.ReadyFor dt d) (joined : HasJoined s) (payload : d.payload = [tag, i1, i0, n, c1, c0]) :
    (s.plan.state ≠ .loading → RefusedWith (.planSeal dt d) s 34 tag 2 1 0) ∧
    (s.plan.state = .loading → s.plan.id ≠ some (twoBytes i1 i0) → RefusedWith (.planSeal dt d) s 34 tag 2 2 0) ∧
    (s.plan.state = .loading → s.plan.id = some (twoBytes i1 i0) →
      ∃ t, exec (.planSeal dt d) s = .next t ∧ t.handler.state = .carryingOut ∧
        (∃ at', t.handler.job = some ⟨tag, n.toNat, twoBytes c1 c0, at'⟩ ∧ at' = t.now) ∧ t.plan = s.plan ∧
        (s.Settled → CoreUnchanged s t)) := by
  have hj : (s.heard dt).joined = true := State.joined_iff.mpr joined
  have owner : (s.heard dt).takeCommand ⟨34, d.payload⟩ = (s.heard dt).takePlanSeal ⟨34, d.payload⟩ :=
    State.takeCommand_of_length _ (fun _ => by rw [payload]; rfl)
  have planId : word16 d.payload 1 = twoBytes i1 i0 := by rw [payload]; rfl
  have tagged : (⟨34, d.payload⟩ : Command).tag = tag := by rw [payload]; rfl
  refine ⟨fun other => ?notLoading, fun loading other => ?otherId, fun loading same => ?taken⟩
  case notLoading =>
    refine refusedWith_of_taken ready (by decide) (by decide) (exec_planSeal dt d s) ?_
    rw [owner, State.takePlanSeal_notLoading hj other, Command.refuse, tagged]
  case otherId =>
    refine refusedWith_of_taken ready (by decide) (by decide) (exec_planSeal dt d s) ?_
    rw [owner, State.takePlanSeal_otherId (c := ⟨34, d.payload⟩) hj loading (by rw [planId]; exact other),
      Command.refuse, tagged]
  case taken =>
    obtain ⟨-, queue, -⟩ := ready.handler
    have taken := State.takePlanSeal_taken (c := ⟨34, d.payload⟩) hj loading (by rw [planId]; exact same)
    have result : exec (.planSeal dt d) s = .next ((((s.heard dt).modHandler (fun x =>
        { x with job := some ⟨tag, n.toNat, twoBytes c1 c0, s.now + dt⟩ })).modHandler
          (fun x => { x with state := .carryingOut })).finish true) := by
      rw [exec_planSeal, deliver_of_readyFor ready (by decide) (by decide), owner, taken, tagged, payload]
      simp only [State.concludeTaking]
      rw [State.takeCommands_of_queue_nil (by simp [queue])]
      rfl
    refine ⟨_, result, by simp, ⟨s.now + dt, by simp, by simp⟩, by simp, fun settled => ?_⟩
    exact settled.finish_coreUnchanged true rfl

/-! ### The end of a validation -/

section
variable {s : State} {j : SealJob}

/-- A validation that finds no failing check (R5, R73, R97). -/
theorem State.sealOutcome_sealed (h : s.plan.validate j.steps j.records = none) :
    s.sealOutcome j =
      (((s.modPlan (fun p => p.afterValidation j.steps none)).modCapture (fun _ => CaptureTable.reset)).initConditions,
        .accept 34 j.tag 0) := by
  simp only [State.sealOutcome, h]

/-- A validation that finds a failing check (R5, R19). -/
theorem State.sealOutcome_invalid {code q : Nat} (h : s.plan.validate j.steps j.records = some (code, q)) :
    s.sealOutcome j = (s.modPlan (fun p => p.afterValidation j.steps (some (code, q))), .refuse 34 j.tag 2 code q) := by
  simp only [State.sealOutcome, h]

/-- The state in which a validation is judged: the job has left the handler at the end of its millisecond (R5). -/
def State.validated (s : State) (pt : PinnedTicks) (j : SealJob) : State :=
  ((s.readPins pt.pins).elapseTo pt.ticks (s.nextMs j.takenAt)).modHandler (fun h => { h with job := none })

/-- SEAL_VALIDATION_END with room for the reply: the plan and the Capture Table are those of the outcome, the reply is
queued and the handler is READY. -/
theorem sealValidationEnd_of_outcome {pt : PinnedTicks} {o : State} {b : TxBody} (hj : s.handler.job = some j)
    (hq : s.handler.queue = []) (room : txCount s.rbi.queue .handler < 4)
    (outcome : (s.validated pt j).sealOutcome j = (o, b)) (hb : b.producer = .handler) (rbi : o.rbi = s.rbi)
    (handler : o.handler = { s.handler with job := none }) :
    ∃ t, exec (.sealValidationEnd pt) s = .next t ∧ t.plan = o.plan ∧ t.handler.state = .ready ∧ t.handler.job = none ∧
      t.Queues b ∧ (o.Settled → t.capture = o.capture) := by
  have hroom : txCount o.rbi.queue .handler < 4 := by rwa [rbi]
  have ended : ((s.readPins pt.pins).elapseTo pt.ticks (s.nextMs j.takenAt)).sealEnds =
      (o.send b).modHandler (fun h => { h with state := .ready }) := by
    unfold State.sealEnds
    rw [show ((s.readPins pt.pins).elapseTo pt.ticks (s.nextMs j.takenAt)).handler.job = some j from hj]
    simp only
    rw [show (((s.readPins pt.pins).elapseTo pt.ticks (s.nextMs j.takenAt)).modHandler
      (fun h => { h with job := none })).sealOutcome j = (o, b) from outcome, State.placeReply_of_room b _ _ hroom]
    exact State.takeCommands_of_queue_nil (by simp [handler, hq]) _
  have result : exec (.sealValidationEnd pt) s =
      .next (((o.send b).modHandler (fun h => { h with state := .ready })).finish false) := by
    rw [← ended]
    show execSealValidationEnd pt s = _
    simp only [execSealValidationEnd, hj]
  refine ⟨_, result, by simp, by simp, by simp [handler], ?_, fun settled => ?_⟩
  · exact State.queues_finish false (by simp [TxBody.isOuter, hb]) (State.send_queues (by rw [hb]; exact hroom))
  · obtain ⟨-, -, capture, -⟩ := settled.finish_coreUnchanged false
      (u := (o.send b).modHandler (fun h => { h with state := .ready })) (o.send_core b)
    exact capture

end

/-- Settles O33: the two outcomes of the validation are those of the walk, carried to the end of the event. -/
theorem sealDecidesThePlan : Obligations.SealDecidesThePlan := by
  refine ⟨fun s dt d tag i1 i0 n c1 c0 ready joined payload => planSeal_startsValidation ready joined payload,
    fun s dt pins j hj hq room => ⟨fun valid => ?sealed, fun code q failing => ?invalid⟩⟩
  case sealed =>
    obtain ⟨t, result, plan, state, job, reply, capture⟩ := sealValidationEnd_of_outcome (pt := ⟨dt, pins⟩) hj hq room
      (State.sealOutcome_sealed valid) rfl rfl rfl
    refine ⟨t, result, by rw [plan]; rfl, by rw [plan]; rfl, fun e => ?_, state, job, reply, fun settled => ?_⟩
    · have heads : t.plan.heads =
          s.plan.heads.map (fun e => (e.1, { e.2 with retained := e.2.retained || e.2.permanent })) := by rw [plan]; rfl
      rw [heads, List.mem_map]
      constructor
      · rintro ⟨x, hx, rfl⟩
        exact ⟨x.2, hx, rfl⟩
      · rintro ⟨h, hx, he⟩
        exact ⟨(e.1, h), hx, Prod.ext rfl he.symm⟩
    · rw [capture settled]
      exact ⟨fun e h => eq_of_mem_toList_replicate h, rfl⟩
  case invalid =>
    obtain ⟨t, result, plan, state, job, reply, -⟩ := sealValidationEnd_of_outcome (pt := ⟨dt, pins⟩) hj hq room
      (State.sealOutcome_invalid failing) rfl rfl rfl
    exact ⟨t, result, plan, state, job, reply⟩

end Sys2Proof.Machine

/-! ## Tables of fixed length -/

namespace Sys2Proof.Machine

section
variable {α : Type} {n : Nat}

theorem vecGet_of_lt {v : Vector α n} {i : Nat} (h : i < v.toList.length) (d : α) : vecGet v i d = v.toList[i] := by
  simp [vecGet, List.getElem?_eq_getElem h]

theorem vecGet_vecMod_same {i : Nat} (h : i < n) (v : Vector α n) (f : α → α) (d : α) :
    vecGet (vecMod v i f) i d = f (vecGet v i d) := by
  have hi : i < v.toList.length := by simpa using h
  simp [vecGet, vecMod, List.getElem?_eq_getElem hi]

theorem vecGet_vecMod_ne {i j : Nat} (h : j ≠ i) (v : Vector α n) (f : α → α) (d : α) :
    vecGet (vecMod v i f) j d = vecGet v j d := by
  simp [vecGet, vecMod, h.symm]

/-- Updating the elements below `m` one after the other updates each of them once. -/
theorem vecGet_foldl_vecMod (f : Nat → α → α) (v : Vector α n) (d : α) (m : Nat) {j : Nat} (h : j < n) :
    vecGet ((List.range m).foldl (fun w k => vecMod w k (f k)) v) j d =
      if j < m then f j (vecGet v j d) else vecGet v j d := by
  induction m with
  | zero => simp
  | succ m ih =>
    rw [List.range_succ, List.foldl_append, List.foldl_cons, List.foldl_nil]
    rcases Decidable.em (j = m) with rfl | hne
    · rw [vecGet_vecMod_same h, ih, if_neg (Nat.lt_irrefl _), if_pos (Nat.lt_succ_self _)]
    · have below : j < m + 1 ↔ j < m := by omega
      rw [vecGet_vecMod_ne hne, ih]
      simp only [below]

end

end Sys2Proof.Machine

/-! ## The end of an event at a settled station, and the frame port -/

namespace Sys2Proof.Machine

/-- The millisecond clock follows the time and the tick at which it started. -/
theorem State.ms_congr {s t : State} (now : t.now = s.now) (clock : t.join.clockStart = s.join.clockStart) :
    t.ms = s.ms := by
  simp only [State.ms, now, clock]

theorem Kept.ms {s t : State} (h : Kept s t) : t.ms = s.ms := State.ms_congr h.now h.clock

theorem State.arbiter_of_busy {s : State} (h : s.net.port ≠ .free) : s.arbiter = s := by
  unfold State.arbiter
  split
  next hp _ => exact absurd hp h
  next => rfl

theorem State.arbiter_of_pick_none {s : State} (h : s.net.pick s.ms = none) : s.arbiter = s := by
  unfold State.arbiter
  split
  next hk => rw [h] at hk; cases hk
  next => rfl

theorem State.arbiter_of_pick_some {s : State} {k : Nat} (hp : s.net.port = .free) (h : s.net.pick s.ms = some k) :
    s.arbiter = s.handOff k := by
  simp only [State.arbiter, hp, h]

/-- At a settled station the core comes to the arbiter as the event left it, and the start of a frame follows. -/
theorem State.Settled.finish_eq_arbiter {s : State} (b : Bool) (h : s.Settled) :
    ∃ u : State, Kept s u ∧ u.core = s.core ∧ s.finish b = u.arbiter.startBus := by
  refine ⟨_, ?_, State.beforeArbiter_core b h, rfl⟩
  refine Kept.trans (Kept.ofOuter ?_) (State.sendOwed_kept _)
  cases b <;> simp

/-- With the port taken, or no entry PENDING, the end of the event leaves the Network Schedule Unit alone (R66). -/
theorem State.Settled.finish_net {s : State} (b : Bool) (h : s.Settled)
    (idle : s.net.port ≠ .free ∨ s.net.pick s.ms = none) : (s.finish b).net = s.net := by
  obtain ⟨u, kept, core, finish⟩ := h.finish_eq_arbiter b
  have net : u.net = s.net := congrArg Core.net core
  have still : u.arbiter = u := by
    rcases idle with busy | unpicked
    · exact State.arbiter_of_busy (by rwa [net])
    · exact State.arbiter_of_pick_none (by rwa [net, kept.ms])
  rw [finish, still, ← net]
  exact congrArg Core.net u.startBus_core

@[simp] theorem State.finish_ms (b : Bool) (s : State) : (s.finish b).ms = s.ms :=
  (s.finish_kept b).ms

end Sys2Proof.Machine

/-! ## The schedule and the arbiter -/

namespace Sys2Proof.Machine
open Sys2Proof.Stated

/-! ### The pick of the arbiter (R66) -/

/-- The age of an entry that waits for the port: enabled and PENDING (R66). -/
def NetRun.age (now : Ms) (e : NetRun) : Option Nat :=
  if e.enabled then e.pend.map (fun p => (now - p).toNat) else none

theorem NetRun.age_eq_some {now : Ms} {e : NetRun} {a : Nat} :
    e.age now = some a ↔ e.enabled = true ∧ ∃ p, e.pend = some p ∧ (now - p).toNat = a := by
  cases he : e.enabled <;> simp [NetRun.age, he]

/-- The better of the best so far and the entry `i` of age `a`, which comes after it (R66). -/
def challenge (best : Option (Nat × Nat)) (i a : Nat) : Option (Nat × Nat) :=
  match best with
  | some (j, b) => if b < a then some (i, a) else some (j, b)
  | none => some (i, a)

theorem pickFrom_cons_of_waiting {now : Ms} {e : NetRun} {a : Nat} (h : e.age now = some a) (l : List NetRun) (i : Nat)
    (best : Option (Nat × Nat)) : pickFrom now (e :: l) i best = pickFrom now l (i + 1) (challenge best i a) := by
  obtain ⟨enabled, p, pend, rfl⟩ := NetRun.age_eq_some.mp h
  rw [pickFrom, enabled, pend]
  rfl

theorem pickFrom_cons_of_not_waiting {now : Ms} {e : NetRun} (h : e.age now = none) (l : List NetRun) (i : Nat)
    (best : Option (Nat × Nat)) : pickFrom now (e :: l) i best = pickFrom now l (i + 1) best := by
  rw [pickFrom]
  split
  next p enabled pend => simp [NetRun.age, enabled, pend] at h
  next => rfl

theorem pickFrom_append (now : Ms) (l₁ l₂ : List NetRun) (i : Nat) (best : Option (Nat × Nat)) :
    pickFrom now (l₁ ++ l₂) i best = pickFrom now l₂ (i + l₁.length) (pickFrom now l₁ i best) := by
  induction l₁ generalizing i best with
  | nil => rfl
  | cons e l ih =>
    rw [List.cons_append, List.length_cons, Nat.add_comm l.length, ← Nat.add_assoc]
    cases h : e.age now with
    | none => simp only [pickFrom_cons_of_not_waiting h, ih]
    | some a => simp only [pickFrom_cons_of_waiting h, ih]

/-- Entries that do not wait, or are no older than the best so far, leave it the best. -/
theorem pickFrom_keeps {now : Ms} {l : List NetRun} {best : Option (Nat × Nat)}
    (h : ∀ e ∈ l, ∀ b, e.age now = some b → ∃ j a, best = some (j, a) ∧ b ≤ a) (i : Nat) :
    pickFrom now l i best = best := by
  induction l generalizing i with
  | nil => rfl
  | cons e l ih =>
    have rest := ih (fun x hx => h x (List.mem_cons_of_mem e hx)) (i + 1)
    cases ha : e.age now with
    | none => rw [pickFrom_cons_of_not_waiting ha, rest]
    | some b =>
      obtain ⟨j, a, hbest, le⟩ := h e List.mem_cons_self b ha
      have stands : challenge best i b = best := by simp [challenge, hbest, Nat.not_lt.mpr le]
      rw [pickFrom_cons_of_waiting ha, stands, rest]

/-- The best of entries younger than `m` is younger than `m`. -/
theorem pickFrom_younger {now : Ms} {m : Nat} {l : List NetRun} (h : ∀ e ∈ l, ∀ b, e.age now = some b → b < m) (i : Nat)
    {best : Option (Nat × Nat)} (hbest : ∀ x ∈ best, x.2 < m) : ∀ x ∈ pickFrom now l i best, x.2 < m := by
  induction l generalizing i best with
  | nil => exact hbest
  | cons e l ih =>
    have rest := fun x hx => h x (List.mem_cons_of_mem e hx)
    cases ha : e.age now with
    | none =>
      rw [pickFrom_cons_of_not_waiting ha]
      exact ih rest (i + 1) hbest
    | some b =>
      rw [pickFrom_cons_of_waiting ha]
      refine ih rest (i + 1) fun x hx => ?_
      have hb : b < m := h e List.mem_cons_self b ha
      unfold challenge at hx
      split at hx
      next j a =>
        split at hx <;> cases hx
        · exact hb
        · exact hbest (j, a) rfl
      next => cases hx; exact hb

/-- An entry older than all before it and at least as old as all after it is picked (R66). -/
theorem pickFrom_oldest {now : Ms} {l₁ l₂ : List NetRun} {e : NetRun} {m : Nat} (he : e.age now = some m)
    (before : ∀ x ∈ l₁, ∀ b, x.age now = some b → b < m) (after : ∀ x ∈ l₂, ∀ b, x.age now = some b → b ≤ m) :
    pickFrom now (l₁ ++ e :: l₂) 0 none = some (l₁.length, m) := by
  have younger := pickFrom_younger before 0 (best := none) (by simp)
  have wins : challenge (pickFrom now l₁ 0 none) (0 + l₁.length) m = some (l₁.length, m) := by
    unfold challenge
    split
    next j b hb => rw [if_pos (younger (j, b) hb), Nat.zero_add]
    next => rw [Nat.zero_add]
  rw [pickFrom_append, pickFrom_cons_of_waiting he, wins]
  exact pickFrom_keeps (fun x hx b hb => ⟨_, _, rfl, after x hx b hb⟩) _

theorem Net.pick_eq_none {n : Net} {now : Ms}
    (h : ∀ k, k < 24 → ∀ p, (vecGet n.entries k NetRun.reset).enabled = true →
      (vecGet n.entries k NetRun.reset).pend ≠ some p) : n.pick now = none := by
  have idle : pickFrom now n.entries.toList 0 none = none := by
    refine pickFrom_keeps (fun e he b hb => ?_) 0
    obtain ⟨k, hk, rfl⟩ := List.getElem_of_mem he
    obtain ⟨enabled, p, pend, -⟩ := NetRun.age_eq_some.mp hb
    rw [← vecGet_of_lt hk NetRun.reset] at enabled pend
    exact absurd pend (h k (by simpa using hk) p enabled)
  rw [Net.pick, idle, Option.map_none]

theorem Net.pick_eq_some {n : Net} {now p : Ms} {k : Nat} (hk : k < 24)
    (enabled : (vecGet n.entries k NetRun.reset).enabled = true) (pend : (vecGet n.entries k NetRun.reset).pend = some p)
    (oldest : ∀ j q, j < 24 → j ≠ k → (vecGet n.entries j NetRun.reset).enabled = true →
      (vecGet n.entries j NetRun.reset).pend = some q →
      (now - q).toNat < (now - p).toNat ∨ ((now - q).toNat = (now - p).toNat ∧ k < j)) : n.pick now = some k := by
  have len : n.entries.toList.length = 24 := Vector.length_toList
  have rival : ∀ j (hj : j < n.entries.toList.length) b, j ≠ k → n.entries.toList[j].age now = some b →
      b < (now - p).toNat ∨ (b = (now - p).toNat ∧ k < j) := by
    intro j hj b hne hb
    rw [← vecGet_of_lt hj NetRun.reset] at hb
    obtain ⟨enabled', q, pend', rfl⟩ := NetRun.age_eq_some.mp hb
    exact oldest j q (by omega) hne enabled' pend'
  have hk' : k < n.entries.toList.length := by omega
  have picked : pickFrom now (n.entries.toList.take k ++ n.entries.toList[k] :: n.entries.toList.drop (k + 1)) 0 none =
      some ((n.entries.toList.take k).length, (now - p).toNat) := by
    refine pickFrom_oldest ?_ (fun x hx b hb => ?_) (fun x hx b hb => ?_)
    · rw [← vecGet_of_lt hk' NetRun.reset]
      exact NetRun.age_eq_some.mpr ⟨enabled, p, pend, rfl⟩
    · obtain ⟨j, hj, rfl⟩ := List.mem_take_iff_getElem.mp hx
      have := rival j (by omega) b (by omega) hb
      omega
    · obtain ⟨j, hj, rfl⟩ := List.mem_drop_iff_getElem.mp hx
      have := rival (k + 1 + j) (by omega) b (by omega) hb
      omega
  rw [← List.drop_eq_getElem_cons hk', List.take_append_drop, List.length_take_of_le (Nat.le_of_lt hk')] at picked
  rw [Net.pick, picked, Option.map_some]

/-! ### Conditions that nobody waits for (R98) -/

theorem State.Unwatched.congr {s t : State} (h : s.Unwatched) (slot : t.sense.slot = s.sense.slot)
    (engine : t.engine = s.engine) (prompts : t.prompts = s.prompts) : t.Unwatched := by
  unfold State.Unwatched
  rwa [slot, engine, prompts]

theorem State.Unwatched.awaited {s : State} (h : s.Unwatched) (e : Nat × Bool) : s.awaited e = false := by
  obtain ⟨slot, engine, prompts⟩ := h
  have acquisition : s.elapsedFor e = none := by
    unfold State.elapsedFor
    split
    next a ha => rw [if_neg (slot a ha e.1 e.2)]
    next => rfl
  have wait : s.waitsFor e = false := by simp [State.waitsFor, engine]
  have prompt : s.entryFrom .step = none := by simpa [State.entryFrom] using prompts
  simp [State.awaited, acquisition, wait, State.promptFor, prompt]

theorem State.offer_of_unwatched {r : State × List (Nat × Bool)} (before : Engine) (h : r.1.Unwatched) :
    State.offer before r = r.1 := by
  have nobody : r.2.find? r.1.awaited = none := List.find?_eq_none.mpr fun e _ => by simp [h.awaited e]
  simp [State.offer, nobody]

/-- Evaluating conditions changes the condition table alone (R94 to R96). -/
theorem State.evaluateList_eq (n : Nat) (l : Slots Condition) (s : State) (evs : List (Nat × Bool)) :
    ∃ c, (State.evaluateList n l s evs).1 = s.modSense (fun x => { x with conditions := c }) := by
  induction l generalizing s evs with
  | nil => exact ⟨s.sense.conditions, rfl⟩
  | cons e l ih =>
    rw [State.evaluateList]
    split
    · exact ⟨_, (ih _ _).choose_spec⟩
    · exact ih s evs

theorem State.sourceChanged_eq (s : State) (n : Nat) :
    ∃ c, (s.sourceChanged n).1 = s.modSense (fun x => { x with conditions := c }) := by
  unfold State.sourceChanged
  split
  · exact State.evaluateList_eq n _ s []
  · exact ⟨s.sense.conditions, rfl⟩

/-! ### NET_SCHEDULE_EXAMINATION and SENT_COMPLETION -/

theorem exec_netScheduleExamination {s : State} {c : Nat} (dt : Nat) (clock : s.join.clockStart = some c) :
    exec (.netScheduleExamination dt) s =
      .next ((s.elapseTo dt (c + roundUp (s.now + dt - c) 16000)).examination.finish false) := by
  show execNetScheduleExamination dt s = _
  simp only [execNetScheduleExamination, State.examinationTick, clock, Option.map_some]
  rfl

theorem exec_sentCompletion (dt : Nat) (s : State) :
    exec (.sentCompletion dt) s = .next ((s.elapse dt).sentComplete.finish false) := rfl

@[simp] theorem State.examineAll_port (s : State) : s.examineAll.net.port = s.net.port := by simp [State.examineAll]
@[simp] theorem State.examineAll_request (s : State) : s.examineAll.net.request = s.net.request := by
  simp [State.examineAll]

theorem State.examineAll_rest (s : State) : RestUnchanged s s.examineAll := by
  simp [RestUnchanged, State.examineAll]

/-- With the port taken and nobody waiting for a condition, an examination changes the entries and, through flag
source 15, the condition table (R63 to R65). -/
theorem State.examination_of_busy {s : State} (busy : s.net.port ≠ .free) (h : s.Unwatched) :
    s.examination.net = s.examineAll.net ∧ RestUnchanged s s.examination ∧ s.examination.outer = s.outer := by
  have taken : ∀ u : State, u.net = s.examineAll.net → u.arbiter = u := fun u hu =>
    State.arbiter_of_busy (by rwa [hu, State.examineAll_port])
  obtain ⟨c, changed⟩ := s.examineAll.sourceChanged_eq 15
  have unwatched : (s.examineAll.sourceChanged 15).1.Unwatched := by
    rw [changed]
    exact h.congr (by simp [State.examineAll]) (by simp [State.examineAll]) (by simp [State.examineAll])
  unfold State.examination
  dsimp only
  split
  · rw [taken s.examineAll rfl]
    exact ⟨rfl, s.examineAll_rest, s.examineAll_outer⟩
  · rw [State.offer_of_unwatched s.engine unwatched, changed, taken _ (State.modSense_net _ _)]
    exact ⟨State.modSense_net _ _, by simpa [RestUnchanged] using s.examineAll_rest, by simp⟩

theorem State.vecGet_examineAll (s : State) {k : Nat} (h : k < 24) :
    vecGet s.examineAll.net.entries k NetRun.reset =
      (vecGet s.net.entries k NetRun.reset).examine s.ms (s.plan.entryPeriod k) := by
  show vecGet (List.foldl _ _ _) _ _ = _
  rw [vecGet_foldl_vecMod (fun k => NetRun.examine s.ms (s.plan.entryPeriod k)) _ _ _ h, if_pos h]

/-- An examination instant is a whole millisecond of the clock (R63). -/
theorem examinationTick_wholeMs (n c : Nat) : (max n (c + roundUp (n - c) 16000) - c) % 16000 = 0 := by
  unfold roundUp
  omega

/-- At a settled station the end of the event leaves the blocks of `RestUnchanged` and the Sense Unit alone. -/
theorem State.Settled.finish_rest {s u : State} (h : s.Settled) (same : RestUnchanged s u) :
    RestUnchanged s (u.finish false) ∧ (u.finish false).sense = u.sense := by
  obtain ⟨nest, stim, capture, engine, store, history⟩ := same
  obtain ⟨nest', stim', capture', sense', engine', store', history'⟩ :=
    State.finish_settled false (h.congr stim engine)
  exact ⟨⟨nest'.trans nest, stim'.trans stim, capture'.trans capture, engine'.trans engine, store'.trans store,
    history'.trans history⟩, sense'⟩

/-- The event of an examination under these premises. -/
theorem State.examination_finish {s : State} (busy : s.net.port ≠ .free) (settled : s.Settled) (h : s.Unwatched) :
    (s.examination.finish false).now = s.now ∧ (s.examination.finish false).ms = s.ms ∧
      (s.examination.finish false).net = s.examineAll.net ∧ RestUnchanged s (s.examination.finish false) := by
  obtain ⟨net, rest, outer⟩ := State.examination_of_busy busy h
  have kept : Kept s s.examination := .ofOuter outer
  have settled' : s.examination.Settled := settled.congr rest.2.1 rest.2.2.2.1
  exact ⟨(State.finish_now _ _).trans kept.now, (State.finish_ms _ _).trans kept.ms,
    (settled'.finish_net false (.inl (by rwa [net, State.examineAll_port]))).trans net, (settled.finish_rest rest).1⟩

/-- A completion that finds no entry PENDING leaves the port FREE (R67). -/
theorem State.sentComplete_of_none {s : State} (h : s.net.pick s.ms = none) :
    s.sentComplete = s.modNet (fun n => { n with port := .free }) :=
  State.arbiter_of_pick_none (s := s.modNet (fun n => { n with port := .free })) h

/-- A completion hands the picked entry off (R66, R67). -/
theorem State.sentComplete_of_some {s : State} {k : Nat} (h : s.net.pick s.ms = some k) :
    s.sentComplete = (s.modNet (fun n => { n with port := .free })).handOff k :=
  State.arbiter_of_pick_some (s := s.modNet (fun n => { n with port := .free })) rfl h

theorem State.sentComplete_rest (s : State) : RestUnchanged s s.sentComplete ∧ s.sentComplete.sense = s.sense := by
  obtain ⟨nest, stim, capture, sense, engine, store, history⟩ :=
    (s.modNet (fun n => { n with port := .free })).arbiter_core
  exact ⟨⟨nest, stim, capture, engine, store, history⟩, sense⟩

/-- Settles O53: an examination is `NetRun.examine` on every entry; a completion hands off what `Net.pick` names. -/
theorem scheduleAndPortServeTheEntries : Obligations.ScheduleAndPortServeTheEntries := by
  refine ⟨fun s dt c clock busy settled unwatched => ?examination, fun s dt settled => ?completion⟩
  case examination =>
    let u := s.elapseTo dt (c + roundUp (s.now + dt - c) 16000)
    obtain ⟨now, ms, net, rest⟩ :=
      State.examination_finish (s := u) busy (settled.congr rfl rfl) (unwatched.congr rfl rfl rfl)
    refine ⟨_, exec_netScheduleExamination dt clock, by rw [now]; exact Nat.le_max_left _ _,
      by rw [now]; exact examinationTick_wholeMs _ c, rest, by rw [net, State.examineAll_port]; rfl,
      by rw [net, State.examineAll_request]; rfl, fun k hk => ?_⟩
    rw [net, ms, u.vecGet_examineAll hk]
    simp only [NetRun.examine, Bool.and_eq_true, beq_iff_eq]
    rfl
  case completion =>
    obtain ⟨same, sense⟩ := (s.elapse dt).sentComplete_rest
    obtain ⟨rest, sense'⟩ := settled.finish_rest same
    have settled' : (s.elapse dt).sentComplete.Settled := settled.congr same.2.1 same.2.2.2.1
    have kept : Kept (s.elapse dt) (s.elapse dt).sentComplete := .ofOuter (s.elapse dt).sentComplete_outer
    have ms : ((s.elapse dt).sentComplete.finish false).ms = (s.elapse dt).ms := (State.finish_ms _ _).trans kept.ms
    refine ⟨_, exec_sentCompletion dt s, (State.finish_now _ _).trans kept.now, rest, sense'.trans sense, fun idle => ?_,
      fun k p hk enabled pend oldest => ?_⟩
    · have unpicked : ∀ now, (s.elapse dt).net.pick now = none := fun _ => Net.pick_eq_none idle
      rw [State.sentComplete_of_none (unpicked _)] at settled' ⊢
      exact settled'.finish_net false (.inr (unpicked _))
    · rw [ms] at oldest
      have picked := Net.pick_eq_some (n := (s.elapse dt).net) hk enabled pend oldest
      rw [State.sentComplete_of_some picked] at settled' ⊢
      have net := settled'.finish_net false (.inl (by simp [State.handOff]))
      rw [net]
      refine ⟨rfl, rfl, (vecGet_vecMod_same hk _ _ _).trans ?_, fun j hj => vecGet_vecMod_ne hj _ _ _⟩
      simp only [NetRun.handedOff, Bool.and_eq_true, Bool.not_eq_true']
      rfl

end Sys2Proof.Machine

/-! ## The Capture Table, and a reading that does not end its attempt -/

namespace Sys2Proof.Machine
open Sys2Proof.Stated

/-! ### A frame that arrives (R74, R76) -/

/-- The latest frame of capture `k` is `payload`, arrived now (R74). -/
def State.putCapture (s : State) (k : Nat) (payload : List Byte) : State :=
  s.modCapture (fun c => { c with entries := vecMod c.entries k (fun _ => ⟨payload, some s.ms⟩) })

section
variable {s : State} {ident k : Nat} {a : CaptureArm} (payload : List Byte)

theorem State.captureArrive_of_other (h : s.plan.state ≠ .sealed ∨ s.plan.captureOf ident = none) :
    s.captureArrive ident payload = (s, none) := by
  have unnamed : (if s.plan.state = .sealed then s.plan.captureOf ident else none) = none := by
    split
    next isSealed => exact h.resolve_left (not_not_intro isSealed)
    next => rfl
  rw [State.captureArrive, unnamed]

theorem State.captureArrive_of_unarmed (isSealed : s.plan.state = .sealed) (named : s.plan.captureOf ident = some k)
    (unarmed : ∀ a, s.capture.arm = some a → a.capture ≠ k) :
    s.captureArrive ident payload = (s.putCapture k payload, none) := by
  rw [State.captureArrive, if_pos isSealed, named]
  dsimp only
  split
  next a ha => rw [if_neg (unarmed a ha)]; rfl
  next => rfl

theorem State.captureArrive_of_armed (isSealed : s.plan.state = .sealed) (named : s.plan.captureOf ident = some k)
    (armed : s.capture.arm = some a) (same : a.capture = k) :
    s.captureArrive ident payload = ((s.putCapture k payload).disarm, some (a.read payload)) := by
  rw [State.captureArrive, if_pos isSealed, named]
  dsimp only
  rw [armed]
  exact if_pos same

end

/-! ### A reading that does not end its attempt (R107, R108) -/

/-- The engine once a reading has been counted (R107, R108). -/
def State.countReading (s : State) (rd : Reading) : State :=
  s.modEngine (fun e =>
    { e with last := some (rd, classNow s rd), count := if classNow s rd = .pass then s.engine.count + 1 else 0 })

/-- A reading of a MEASURE step that does not bring the settle count to S is counted, and the next acquisition is
armed (R107, R108). -/
theorem State.handReading_of_goesOn {s : State} {rd : Reading} (acquiring : s.engine.state = .acquiring)
    (measure : s.stepNow.kind = 1) (goesOn : GoesOn s rd) :
    s.handReading rd = (s.countReading rd).armSource s.stepNow := by
  have short : ¬(classNow s rd = .pass ∧
      s.stepNow.count ≤ if classNow s rd = .pass then s.engine.count + 1 else 0) := fun ⟨pass, full⟩ =>
    goesOn ⟨pass, by rwa [if_pos pass] at full⟩
  unfold State.handReading
  dsimp only
  rw [acquiring, measure]
  exact if_neg short

theorem goesOn_noSignal (s : State) : GoesOn s .noSignal := fun ⟨pass, _⟩ => nomatch pass

/-- The event of a reading of a NETFIELD step that goes on: it is counted, and its capture is armed anew (R75, R107,
R108). -/
theorem netfieldReading_counted {s : State} {rd : Reading} {k start n sign : Nat} (settled : s.Settled)
    (acquiring : s.engine.state = .acquiring) (measure : s.stepNow.kind = 1)
    (source : s.stepNow.source = .netfield k start n sign) (goesOn : GoesOn s rd) :
    let t := (s.handReading rd).finish false
    t.now = s.now ∧ t.ms = s.ms ∧ Counted s t rd ∧
      t.capture = ⟨s.capture.entries, some ⟨k, s.now, start, n, sign == 1⟩⟩ := by
  have handed : s.handReading rd = (s.countReading rd).armCapture k start n (sign == 1) := by
    rw [State.handReading_of_goesOn acquiring measure goesOn, State.armSource, source]
  obtain ⟨app, surplus, resource, ending⟩ := settled
  have settled' : ((s.countReading rd).armCapture k start n (sign == 1)).Settled := ⟨app, surplus, resource, ending⟩
  obtain ⟨nest, stim, capture, -, engine, store, -⟩ := State.finish_settled false settled'
  rw [handed]
  exact ⟨State.finish_now _ _, State.finish_ms _ _, ⟨engine, store, nest, stim⟩, capture⟩

/-! ### RECEIVE_HANDOFF and NETFIELD_WAIT_EXPIRY -/

section
variable {s u : State} {dt : Nat} {ident : BitVec 11} {payload : List Byte} {rd : Reading}

theorem exec_receiveHandoff_of_none (h : (s.elapse dt).captureArrive ident.toNat payload = (u, none)) :
    exec (.receiveHandoff dt ident payload) s = .next (u.finish false) := by
  show execReceiveHandoff dt ident payload s = _
  simp only [execReceiveHandoff, h]

theorem exec_receiveHandoff_of_some (h : (s.elapse dt).captureArrive ident.toNat payload = (u, some rd)) :
    exec (.receiveHandoff dt ident payload) s = .next ((u.handReading rd).finish false) := by
  show execReceiveHandoff dt ident payload s = _
  simp only [execReceiveHandoff, h]

theorem exec_netfieldWaitExpiry {a : CaptureArm} {r : CaptureRecord} (armed : s.capture.arm = some a)
    (record : slotGet s.plan.captures a.capture = some r) :
    exec (.netfieldWaitExpiry dt) s =
      .next ((((s.elapseTo dt (a.armedAt + 3 * r.period * 16000)).disarm).handReading .noSignal).finish false) := by
  show execNetfieldWaitExpiry dt s = _
  simp only [execNetfieldWaitExpiry, State.captureTimeout, armed, record, Option.map_some, Option.getD_some]
  rfl

end

/-- Settles O54: the three ways a frame can meet the Capture Table, and the end of the wait for one. -/
theorem capturesTakeTheirFrames : Obligations.CapturesTakeTheirFrames := by
  refine fun s dt settled => ⟨fun ident payload => ⟨fun other => ?discarded, fun k isSealed named hk unarmed => ?stored,
    fun k a start n sign isSealed named hk armed same acquiring measure source goesOn => ?ends⟩,
    fun k a r start n sign armed same record acquiring measure source => ?expiry⟩
  case discarded =>
    have arrival := State.captureArrive_of_other (s := s.elapse dt) payload other
    obtain ⟨rest, sense⟩ := settled.finish_rest (u := s.elapse dt) ⟨rfl, rfl, rfl, rfl, rfl, rfl⟩
    exact ⟨_, exec_receiveHandoff_of_none arrival, State.finish_now _ _, rest, sense⟩
  case stored =>
    have arrival := State.captureArrive_of_unarmed (s := s.elapse dt) payload isSealed named unarmed
    have settled' : ((s.elapse dt).putCapture k payload).Settled := settled.congr rfl rfl
    obtain ⟨nest, -, capture, sense, engine, store, -⟩ := State.finish_settled false settled'
    refine ⟨_, exec_receiveHandoff_of_none arrival, State.finish_now _ _, ?_, fun j hj => ?_, ?_, nest, engine, store,
      sense⟩
    · rw [capture, State.finish_ms]
      exact vecGet_vecMod_same hk _ _ _
    · rw [capture]
      exact vecGet_vecMod_ne hj _ _ _
    · rw [capture]
      rfl
  case ends =>
    have arrival := State.captureArrive_of_armed (s := s.elapse dt) payload isSealed named armed same
    obtain ⟨now, ms, counted, capture⟩ := netfieldReading_counted
      (s := ((s.elapse dt).putCapture k payload).disarm) (settled.congr rfl rfl) acquiring measure source goesOn
    refine ⟨_, exec_receiveHandoff_of_some arrival, now, ?_, counted, ?_⟩
    · rw [capture, ms]
      exact vecGet_vecMod_same hk _ _ _
    · rw [capture, now]
  case expiry =>
    subst same
    obtain ⟨now, -, counted, capture⟩ := netfieldReading_counted
      (s := (s.elapseTo dt (a.armedAt + 3 * r.period * 16000)).disarm) (settled.congr rfl rfl) acquiring measure source
      (goesOn_noSignal _)
    refine ⟨_, exec_netfieldWaitExpiry armed record, now, counted, ?_, ?_⟩
    · rw [capture]
      rfl
    · rw [capture, now]

end Sys2Proof.Machine

/-! ## The bytes and nibbles of a payload -/

namespace Sys2Proof.Machine

/-! ### Bytes -/

theorem byteAt_lt (p : List Byte) (i : Nat) : byteAt p i < 256 := (p.getD i 0).isLt

theorem toByte_toNat (n : Nat) : (toByte n).toNat = n % 256 := BitVec.toNat_ofNat n 8

theorem byteAt_set_same {p : List Byte} {i : Nat} (h : i < p.length) (b : Byte) : byteAt (p.set i b) i = b.toNat := by
  simp [byteAt, h]

theorem byteAt_set_ne {i j : Nat} (h : j ≠ i) (p : List Byte) (b : Byte) : byteAt (p.set i b) j = byteAt p j := by
  simp [byteAt, List.getElem?_set_ne h.symm]

theorem byteAt_take {i n : Nat} (h : i < n) (p : List Byte) : byteAt (p.take n) i = byteAt p i := by
  simp [byteAt, List.getElem?_take_of_lt h]

/-- The sum of the bytes of a payload (R72). -/
def byteSum (p : List Byte) : Nat := (p.map BitVec.toNat).sum

/-- Writing a byte exchanges the old one for the new one in the sum. -/
theorem byteSum_set {p : List Byte} {i : Nat} (h : i < p.length) (b : Byte) :
    byteSum (p.set i b) + byteAt p i = byteSum p + b.toNat := by
  induction p generalizing i with
  | nil => simp at h
  | cons x p ih =>
    cases i with
    | zero =>
      simp only [byteSum, byteAt, List.set_cons_zero, List.map_cons, List.sum_cons, List.getD_cons_zero]
      omega
    | succ i =>
      have := ih (Nat.lt_of_succ_lt_succ h)
      simp only [byteSum, byteAt, List.set_cons_succ, List.map_cons, List.sum_cons, List.getD_cons_succ] at this ⊢
      omega

/-! ### Nibbles (R70) -/

theorem nibbleAt_lt (p : List Byte) (i : Nat) : nibbleAt p i < 16 := by
  have := byteAt_lt p (i / 2)
  unfold nibbleAt
  split <;> omega

/-- Nibbles of equal bytes are equal. -/
theorem nibbleAt_congr {p q : List Byte} {i : Nat} (h : byteAt p (i / 2) = byteAt q (i / 2)) :
    nibbleAt p i = nibbleAt q i := by
  simp only [nibbleAt, h]

@[simp] theorem putNibble_length (p : List Byte) (i v : Nat) : (putNibble p i v).length = p.length := by
  simp [putNibble]

theorem byteAt_putNibble_ne {i j : Nat} (h : j ≠ i / 2) (p : List Byte) (v : Nat) :
    byteAt (putNibble p i v) j = byteAt p j := by
  simp [byteAt, putNibble, h.symm]

/-- The byte that holds a written nibble, its other half kept. -/
theorem byteAt_putNibble_same {p : List Byte} {i : Nat} (h : i / 2 < p.length) (v : Nat) :
    byteAt (putNibble p i v) (i / 2) =
      if i % 2 = 0 then byteAt p (i / 2) / 16 * 16 + v % 16 else v % 16 * 16 + byteAt p (i / 2) % 16 := by
  have lt := byteAt_lt p (i / 2)
  have written : byteAt (putNibble p i v) (i / 2) =
      (if i % 2 = 0 then toByte (byteAt p (i / 2) / 16 * 16 + v % 16)
        else toByte (v % 16 * 16 + byteAt p (i / 2) % 16)).toNat := by
    simp [byteAt, putNibble, h]
  rw [written]
  split <;> rw [toByte_toNat] <;> omega

theorem nibbleAt_putNibble_same {p : List Byte} {i : Nat} (h : i / 2 < p.length) (v : Nat) :
    nibbleAt (putNibble p i v) i = v % 16 := by
  have lt := byteAt_lt p (i / 2)
  rw [nibbleAt, byteAt_putNibble_same h]
  split <;> omega

theorem nibbleAt_putNibble_ne {i j : Nat} (hne : j ≠ i) {p : List Byte} (h : i / 2 < p.length) (v : Nat) :
    nibbleAt (putNibble p i v) j = nibbleAt p j := by
  rcases Decidable.em (j / 2 = i / 2) with same | other
  · have lt := byteAt_lt p (i / 2)
    rw [nibbleAt, nibbleAt, same, byteAt_putNibble_same h]
    split <;> split <;> omega
  · exact nibbleAt_congr (byteAt_putNibble_ne other p v)

/-! ### Fields (R70, R76) -/

section
variable {p : List Byte} (start : Nat)

theorem putField_length (p : List Byte) (off n v : Nat) : (putField p start off n v).length = p.length := by
  induction n generalizing p off v with
  | zero => rfl
  | succ n ih => rw [putField, ih, putNibble_length]

/-- A nibble that the field does not cover is kept. -/
theorem nibbleAt_putField_outside (hp : p.length = 8) {i : Nat} (off n v : Nat)
    (h : ∀ j, j < n → (start + (off + j)) % 16 ≠ i) : nibbleAt (putField p start off n v) i = nibbleAt p i := by
  induction n generalizing p off v with
  | zero => rfl
  | succ n ih =>
    have first : i ≠ (start + off) % 16 := (h 0 n.succ_pos).symm
    rw [putField, ih (by rw [putNibble_length, hp]), nibbleAt_putNibble_ne first (by omega)]
    intro j hj
    rw [show off + 1 + j = off + (j + 1) by omega]
    exact h (j + 1) (by omega)

/-- Nibble `j` of a written field is digit `j` of its value to the base 16, while the field does not wrap over itself. -/
theorem nibbleAt_putField_inside (hp : p.length = 8) (off n v : Nat) (hn : n ≤ 16) {j : Nat} (hj : j < n) :
    nibbleAt (putField p start off n v) ((start + (off + j)) % 16) = v / 16 ^ j % 16 := by
  induction n generalizing p off v j with
  | zero => omega
  | succ n ih =>
    have len : (putNibble p ((start + off) % 16) (v % 16)).length = 8 := by rw [putNibble_length, hp]
    rw [putField]
    cases j with
    | zero =>
      rw [nibbleAt_putField_outside start len _ _ _ (fun i hi => by omega), Nat.add_zero,
        nibbleAt_putNibble_same (by omega)]
      omega
    | succ j =>
      rw [show off + (j + 1) = off + 1 + j by omega, ih len (off + 1) (v / 16) (by omega) (by omega), Nat.pow_succ',
        Nat.div_div_eq_div_mul]

/-- A field whose nibbles are the digits of `v` reads as `v`. -/
theorem fieldValue_of_digits {q : List Byte} {n v : Nat} (hv : v < 16 ^ n)
    (h : ∀ j, j < n → nibbleAt q ((start + j) % 16) = v / 16 ^ j % 16) : fieldValue q start n = v := by
  induction n generalizing start v with
  | zero => simp only [fieldValue]; omega
  | succ n ih =>
    have low : nibbleAt q (start % 16) = v % 16 := by simpa using h 0 n.succ_pos
    have high : fieldValue q (start + 1) n = v / 16 := by
      refine ih (start + 1) (by rw [Nat.pow_succ'] at hv; omega) fun j hj => ?_
      rw [Nat.add_assoc, Nat.add_comm 1, h (j + 1) (by omega), Nat.pow_succ', Nat.div_div_eq_div_mul]
    rw [fieldValue, low, high]
    omega

/-- A field of one nibble more has that nibble at its top place. -/
theorem fieldValue_succ_top (p : List Byte) (n : Nat) :
    fieldValue p start (n + 1) = fieldValue p start n + nibbleAt p ((start + n) % 16) * 16 ^ n := by
  induction n generalizing start with
  | zero => simp only [fieldValue, Nat.add_zero, Nat.mul_zero, Nat.pow_zero, Nat.mul_one, Nat.zero_add]
  | succ n ih =>
    have shifted : start + 1 + n = start + (n + 1) := by omega
    rw [fieldValue, ih (start + 1), fieldValue, shifted, Nat.pow_succ, ← Nat.mul_assoc]
    omega

/-- The value of a field as the sum of its nibbles by their places (R76). -/
theorem fieldValue_eq_sum (p : List Byte) (n : Nat) :
    fieldValue p start n = ((List.range n).map (fun i => nibbleAt p ((start + i) % 16) * 16 ^ i)).sum := by
  induction n with
  | zero => rfl
  | succ n ih =>
    rw [fieldValue_succ_top, ih, List.range_succ, List.map_append, List.sum_append, List.map_singleton,
      List.sum_singleton]

end

end Sys2Proof.Machine

/-! ## The stages of a frame, and the reading of a field -/

namespace Sys2Proof.Machine

/-- The field value of a binding, below, within and above its range (R69). -/
theorem NetBinding.field_cases (b : NetBinding) (setpoint : Nat) :
    (b.value setpoint < 0 → b.field setpoint = (0, true)) ∧
    (0 ≤ b.value setpoint → b.value setpoint < (16 : Int) ^ b.length →
      b.field setpoint = ((b.value setpoint).toNat, false)) ∧
    ((16 : Int) ^ b.length ≤ b.value setpoint → b.field setpoint = (16 ^ b.length - 1, true)) := by
  have pos : (0 : Int) < 16 ^ b.length := Int.pow_pos (by decide)
  have cast : ((16 ^ b.length : Nat) : Int) = 16 ^ b.length := Int.natCast_pow 16 b.length
  unfold NetBinding.field
  dsimp only
  rw [cast]
  refine ⟨fun below => if_pos below, fun lo hi => ?_, fun above => ?_⟩
  · rw [if_neg (by omega), if_neg (by omega)]
  · rw [if_neg (by omega), if_pos above]

/-- The override of an entry puts its byte in place in the fixed payload (R68). -/
theorem NetEntry.base_of_override {r : NetEntry} {e : NetRun} {pos v : Nat} (h : e.override = some (pos, v)) :
    r.base e = (r.payload.take r.length).set pos (toByte v) := by
  simp only [NetEntry.base, h]

section
variable {r : NetEntry} (e : NetRun) {p : List Byte}

/-- The checksum byte of an entry with no alive field, or one more with BAD-CHECKSUM (R72). -/
theorem NetEntry.seal_of_checksum {n : Nat} (h : r.checksum = some n) (alive : r.alive = none) :
    r.seal e p = p.set (n / 2)
      (toByte (if e.badChecksum then checksumOf r.identifier (n / 2) p + 1 else checksumOf r.identifier (n / 2) p)) := by
  simp only [NetEntry.seal, h, alive]

/-- A checksum byte closes the sum of payload and identifier at 255 modulo 256 (R72). -/
theorem checksum_closes {ident c : Nat} (hc : c < p.length) (bad : Bool) :
    (byteSum (p.set c (toByte (if bad then checksumOf ident c p + 1 else checksumOf ident c p))) + ident % 256 +
      ident / 256) % 256 = if bad then 0 else 255 := by
  have exchange := byteSum_set hc (toByte (if bad then checksumOf ident c p + 1 else checksumOf ident c p))
  have old := byteSum_set hc 0
  have value : checksumOf ident c p = 255 - (byteSum p - byteAt p c + ident % 256 + ident / 256) % 256 := rfl
  rw [toByte_toNat] at exchange
  rw [show (0 : Byte).toNat = 0 from rfl] at old
  cases bad <;> simp only [if_true, if_false, Bool.false_eq_true] at exchange ⊢ <;> omega

/-- Past the alive nibble a sealed payload differs in its checksum byte only (R71, R72). -/
theorem NetEntry.nibbleAt_seal_of_alive {n i : Nat} (h : r.alive = some n)
    (apart : ∀ c, r.checksum = some c → i / 2 ≠ c / 2) :
    nibbleAt (r.seal e p) i = nibbleAt (putNibble p n e.alive) i := by
  cases hc : r.checksum with
  | none => simp only [NetEntry.seal, h, hc]
  | some c =>
    simp only [NetEntry.seal, h, hc]
    exact nibbleAt_congr (byteAt_set_ne (apart c hc) _ _)

end

section
variable {a : CaptureArm} {p : List Byte}

/-- A field that does not lie within the frame gives NO SIGNAL (R76). -/
theorem CaptureArm.read_outside (h : p.length ≠ 8) (beyond : 2 * p.length < a.start + a.length) :
    a.read p = .noSignal := by
  have outside : fieldWithin p.length a.start a.length = false := by simp [fieldWithin, h, beyond]
  rw [CaptureArm.read, outside]
  rfl

/-- A field within the frame is read as it stands, or in two's complement (R76). -/
theorem CaptureArm.read_inside (h : p.length = 8 ∨ a.start + a.length ≤ 2 * p.length) :
    a.read p = exactReading (if a.signed = true ∧ 16 ^ a.length ≤ 2 * fieldValue p a.start a.length then
      (fieldValue p a.start a.length : Int) - (16 ^ a.length : Nat) else fieldValue p a.start a.length) := by
  have inside : fieldWithin p.length a.start a.length = true := by simpa [fieldWithin] using h
  rw [CaptureArm.read, inside]
  simp

end

/-- Settles O55, clause by clause: fields, checksum, binding, base, alive nibble and reading each have their lemma. -/
theorem fieldsReadBackAndChecksumsClose : Obligations.FieldsReadBackAndChecksumsClose := by
  refine ⟨fun p start n v hp _ hn hv => ?field, fun r e p c hc halive hlt => ?checksum,
    NetBinding.field_cases, fun r e => ?base, fun r e p n halive hlt small apart => ?alive, fun a p => ?read⟩
  case field =>
    refine ⟨fieldValue_of_digits start hv fun j hj => ?_, by rw [putField_length, hp], fun i _ outside => ?_⟩
    · simpa using nibbleAt_putField_inside start hp 0 n v (by omega) hj
    · exact nibbleAt_putField_outside start hp 0 n v (by simpa using outside)
  case checksum =>
    rw [NetEntry.seal_of_checksum e hc halive, Nat.mul_div_cancel_left c (by omega)]
    exact checksum_closes hlt e.badChecksum
  case base =>
    refine ⟨fun plain => by simp only [NetEntry.base, plain], fun pos v forced hv hpos hlen => ?_⟩
    have len : (r.payload.take r.length).length = r.length := List.length_take_of_le hlen
    rw [NetEntry.base_of_override forced]
    refine ⟨by rw [List.length_set, len], ?_, fun i hi hne => ?_⟩
    · rw [byteAt_set_same (by rwa [len]), toByte_toNat, Nat.mod_eq_of_lt hv]
    · rw [byteAt_set_ne hne, byteAt_take hi]
  case alive =>
    refine ⟨?_, fun i hi apart' => ?_⟩
    · rw [NetEntry.nibbleAt_seal_of_alive e halive apart, nibbleAt_putNibble_same hlt, Nat.mod_eq_of_lt small]
    · rw [NetEntry.nibbleAt_seal_of_alive e halive apart', nibbleAt_putNibble_ne hi hlt]
  case read =>
    intro u
    have value : fieldValue p a.start a.length = u := fieldValue_eq_sum a.start p a.length
    refine ⟨CaptureArm.read_outside, fun inside => ?_⟩
    rw [CaptureArm.read_inside inside, value]
    refine ⟨fun unsigned => ?_, fun _ small => ?_, fun signed large => ?_⟩
    · rw [if_neg (by simp [unsigned])]
      rfl
    · rw [if_neg (by omega)]
      rfl
    · rw [if_pos ⟨signed, large⟩]
      rfl

end Sys2Proof.Machine
